-- ==== Sys2Proof/Word.lean ====
section
/-! DEFINITION. The words of the LoRa packet framer: bytes, byte sequences, rational time and metrics (spec/00_scope.md R8, R9, R13; D35). -/

namespace Sys2Proof

/-- `u8` of R8: bit 0 is the least significant bit. -/
abbrev Byte := BitVec 8

/-- A finite byte sequence, index 0 first (R9). -/
abbrev Bytes := List Byte

/-- Seconds, a rational number (R13, D35). -/
abbrev Time := Rat

/-- A signal-quality value, a rational number (R226, D35). -/
abbrev Metric := Rat

/-- An opaque host object (channel, pin, modem configuration, callback, codec) known by a number only. -/
abbrev Handle := Nat

end Sys2Proof
end

