-- ==== Sys2Proof/Syntax.lean ====
section
/-! DEFINITION. The operations of spec/opcode_table.json as one inductive, their operands (30_encoding.md R94 to R97), the channels they arrive on, and the names a decoder rejects with. -/

namespace Sys2Proof

/-- `S.mode` (10_state.md R22): five states without a numeric encoding (R99). -/
inductive Mode where
  | sleep
  | idle
  | tx
  | rxContinuous
  | cad
  deriving DecidableEq, Repr

/-- The operands of INIT (45_host_surface.md R200) with the defaults of 10_state.md R28.
`channelId`, `interruptPin` and `modemConfig` are opaque handles; `modemConfig` 0 is "default". -/
structure InitArgs where
  channelId : Handle
  interruptPin : Handle
  thisAddress : Byte
  frequencyMHz : Rat := 915
  txPowerDbm : Int := 14
  modemConfig : Handle := 0
  acksEnabled : Bool := false
  cryptoCodec : Option Handle := none
  deriving DecidableEq, Repr

/-- One constructor per row of spec/opcode_table.json. -/
inductive Instr where
  -- HOSTCMD
  | init (a : InitArgs)
  | onReceive (callback : Handle)
  | send (payload : Bytes) (destinationAddress headerId headerFlags : Byte)
  | sendToWait (payload : Bytes) (destinationAddress headerFlags : Byte) (retries : Nat)
  | close
  -- INTCMD
  | setIdle
  | setTx
  | setRx
  | setCad
  | sleep
  | sendAck (destinationAddress headerId : Byte)
  | waitPacketSent
  | waitCad
  -- FUNC
  | hdrBuild (dst src ident flags : Byte) (body : Bytes)
  | hdrParse (packet : Bytes)
  | addrAccept (dst : Byte)
  | flagIsAck (flags : Byte)
  | seqNext
  | ackMatch
  | encWrap (payload : Bytes)
  | encUnwrap (block : Bytes)
  | sigMetrics (snrRaw rssiRaw : Byte)
  -- EVENT
  | irq
  -- FRAME: the header of a received packet; `reserved` is bits 7:1 of the flag byte (R84)
  | frameData (dst src ident : Byte) (reserved : BitVec 7) (body : Bytes)
  | frameAck (dst src ident : Byte) (reserved : BitVec 7) (body : Bytes)
  deriving DecidableEq, Repr

/-- The five formats of R94. -/
inductive Format where
  | hostCmd
  | intCmd
  | func
  | event
  | frame
  deriving DecidableEq, Repr

/-- The format column of spec/opcode_table.json. -/
def Instr.format : Instr → Format
  | .init _ => .hostCmd
  | .onReceive _ => .hostCmd
  | .send _ _ _ _ => .hostCmd
  | .sendToWait _ _ _ _ => .hostCmd
  | .close => .hostCmd
  | .setIdle => .intCmd
  | .setTx => .intCmd
  | .setRx => .intCmd
  | .setCad => .intCmd
  | .sleep => .intCmd
  | .sendAck _ _ => .intCmd
  | .waitPacketSent => .intCmd
  | .waitCad => .intCmd
  | .hdrBuild _ _ _ _ _ => .func
  | .hdrParse _ => .func
  | .addrAccept _ => .func
  | .flagIsAck _ => .func
  | .seqNext => .func
  | .ackMatch => .func
  | .encWrap _ => .func
  | .encUnwrap _ => .func
  | .sigMetrics _ _ => .func
  | .irq => .event
  | .frameData _ _ _ _ _ => .frame
  | .frameAck _ _ _ _ _ => .frame

/-- SEND with its defaulted operands (R96: headerId = 0, headerFlags = 0). -/
def sendWithDefaults (payload : Bytes) (dest : Byte) : Instr :=
  .send payload dest 0 0

/-- SENDTOWAIT with its defaulted operands (R96: headerFlags = 0, retries = 3). -/
def sendToWaitWithDefaults (payload : Bytes) (dest : Byte) : Instr :=
  .sendToWait payload dest 0 3

/-- The channel bytes arrive on (R5, R94, R240). -/
inductive Channel where
  /-- HOST.CMD: the application level. -/
  | host
  /-- HOST.CMD from inside the receive callback, which the host must not use (R272 item 3). -/
  | callback
  /-- A test bench acting for the block's own sequencers (R94 INTCMD row, R137). -/
  | bench
  /-- RADIO.IRQ: an edge of the interrupt line (R215). -/
  | radioIrq
  /-- A received packet handed to the handler's classification (R91). -/
  | air
  deriving DecidableEq, Repr

/-- The channel on which an operation of each format may arrive (R94, R240). -/
def Format.channel : Format → Channel
  | .hostCmd => .host
  | .intCmd => .bench
  | .func => .bench
  | .event => .radioIrq
  | .frame => .air

/-- Why a decoder reads no operation from bytes. All are safe: the record gets no meaning (R95). -/
inductive Reject where
  /-- An empty record has no code byte. -/
  | emptyRecord
  /-- R95: every other code byte is illegal. -/
  | illegalCode (code : Byte)
  /-- The record ends before its last operand. -/
  | truncated
  /-- A bool operand is neither 0 nor 1. -/
  | badBool (b : Byte)
  /-- A natural is written with a superfluous top digit. -/
  | paddedNat
  /-- A sign byte is neither 0 nor 1. -/
  | badSign (b : Byte)
  /-- A rational is not in lowest terms. -/
  | unreducedRational
  /-- Bytes are left over after the last operand. -/
  | trailing
  /-- R91: a packet shorter than 4 bytes. -/
  | shortFrame
  /-- R80: a frame is at most 255 bytes. -/
  | longFrame
  deriving DecidableEq, Repr

end Sys2Proof
end

