-- ==== Sys2Proof/WellFormed.lean ====
section
/-! DEFINITION. What an operation's operands can be, as a check (R28, R80, R91). -/

namespace Sys2Proof

/-- What an operation's operands can be: a frequency is non-negative (R28) and a frame has at most 255 bytes
(R80). A byte sequence of any length is an operand: SEND and SENDTOWAIT check theirs in steps S0 and W0 (R151,
R161), and beyond the lengths R110, R111, R191 and R193 name their functions run all the same (log 35, log 36). -/
def wellFormed : Instr → Bool
  | .init a => decide (0 ≤ a.frequencyMHz.num)
  | .onReceive _ => true
  | .send _ _ _ _ => true
  | .sendToWait _ _ _ _ => true
  | .close => true
  | .setIdle => true
  | .setTx => true
  | .setRx => true
  | .setCad => true
  | .sleep => true
  | .sendAck _ _ => true
  | .waitPacketSent => true
  | .waitCad => true
  | .hdrBuild _ _ _ _ _ => true
  | .hdrParse _ => true
  | .addrAccept _ => true
  | .flagIsAck _ => true
  | .seqNext => true
  | .ackMatch => true
  | .encWrap _ => true
  | .encUnwrap _ => true
  | .sigMetrics _ _ => true
  | .irq => true
  | .frameData _ _ _ _ body => decide (body.length ≤ 251)
  | .frameAck _ _ _ _ body => decide (body.length ≤ 251)

end Sys2Proof
end

