-- ==== Sys2Proof/Decode.lean ====
section
/-! DEFINITION. The command-record decoder (30_encoding.md R95) and the frame decoder (R80, R84, R91), each total and rejecting by name, and after them the encoder.
DESIGN CHOICE, log 4: the spec says the operands follow the code byte and not how they are laid out as bytes; the layout below is the model's. -/

namespace Sys2Proof

/-! ## Reading operands -/

/-- What a reader answers: a value and the bytes after it, or the name of the rejection. -/
abbrev Read (α : Type) := Except Reject (α × Bytes)

/-- Read one value, then go on with the rest. -/
def readThen {α β : Type} (r : Read α) (k : α → Bytes → Read β) : Read β :=
  match r with
  | .ok (a, bs) => k a bs
  | .error e => .error e

/-- One u8 operand. -/
def readByte : Bytes → Read Byte
  | [] => .error .truncated
  | b :: bs => .ok (b, bs)

/-- A bool operand: 0 or 1. -/
def readBool : Bytes → Read Bool
  | [] => .error .truncated
  | b :: bs => if b = 0 then .ok (false, bs) else if b = 1 then .ok (true, bs) else .error (.badBool b)

/-- A natural operand: base-128 digits, least significant first, bit 7 set on every digit but the last. -/
def readNat : Bytes → Read Nat
  | [] => .error .truncated
  | b :: bs =>
    if b.toNat < 128 then .ok (b.toNat, bs)
    else match readNat bs with
      | .error e => .error e
      | .ok (n, rest) => if n = 0 then .error .paddedNat else .ok (b.toNat - 128 + 128 * n, rest)

/-- Exactly `n` bytes. -/
def readExactly (n : Nat) (bs : Bytes) : Read Bytes :=
  if n ≤ bs.length then .ok (bs.take n, bs.drop n) else .error .truncated

/-- A byte-sequence operand: its length, then its bytes. -/
def readBytes (bs : Bytes) : Read Bytes :=
  readThen (readNat bs) readExactly

/-- An integer operand: 0 and the value, or 1 and how far it lies below -1. -/
def readInt (bs : Bytes) : Read Int :=
  readThen (readByte bs) fun sgn bs =>
    readThen (readNat bs) fun n bs =>
      if sgn = 0 then .ok (Int.ofNat n, bs)
      else if sgn = 1 then .ok (Int.negSucc n, bs)
      else .error (.badSign sgn)

/-- A non-negative rational operand in lowest terms: numerator, then denominator less one. -/
def readRat (bs : Bytes) : Read Rat :=
  readThen (readNat bs) fun num bs =>
    readThen (readNat bs) fun den bs =>
      if h : (Int.ofNat num).natAbs.Coprime (den + 1) then
        .ok (⟨Int.ofNat num, den + 1, Nat.succ_ne_zero den, h⟩, bs)
      else .error .unreducedRational

/-- An optional handle: 0 is NONE, n + 1 is SOME n. -/
def readOptHandle (bs : Bytes) : Read (Option Handle) :=
  readThen (readNat bs) fun n bs =>
    match n with
    | 0 => .ok (none, bs)
    | k + 1 => .ok (some k, bs)

/-! ## Records, code byte by code byte (R95) -/

/-- INIT's operands in R95's order. -/
def readInit (bs : Bytes) : Read Instr :=
  readThen (readNat bs) fun channelId bs =>
  readThen (readNat bs) fun interruptPin bs =>
  readThen (readByte bs) fun thisAddress bs =>
  readThen (readRat bs) fun frequencyMHz bs =>
  readThen (readInt bs) fun txPowerDbm bs =>
  readThen (readNat bs) fun modemConfig bs =>
  readThen (readBool bs) fun acksEnabled bs =>
  readThen (readOptHandle bs) fun cryptoCodec bs =>
    .ok (.init ⟨channelId, interruptPin, thisAddress, frequencyMHz, txPowerDbm, modemConfig, acksEnabled, cryptoCodec⟩, bs)

/-- SEND's operands in R95's order. -/
def readSend (bs : Bytes) : Read Instr :=
  readThen (readBytes bs) fun payload bs =>
  readThen (readByte bs) fun dest bs =>
  readThen (readByte bs) fun ident bs =>
  readThen (readByte bs) fun flags bs =>
    .ok (.send payload dest ident flags, bs)

/-- SENDTOWAIT's operands in R95's order. -/
def readSendToWait (bs : Bytes) : Read Instr :=
  readThen (readBytes bs) fun payload bs =>
  readThen (readByte bs) fun dest bs =>
  readThen (readByte bs) fun flags bs =>
  readThen (readNat bs) fun retries bs =>
    .ok (.sendToWait payload dest flags retries, bs)

/-- HDR.BUILD's operands in R95's order. -/
def readHdrBuild (bs : Bytes) : Read Instr :=
  readThen (readByte bs) fun dst bs =>
  readThen (readByte bs) fun src bs =>
  readThen (readByte bs) fun ident bs =>
  readThen (readByte bs) fun flags bs =>
  readThen (readBytes bs) fun body bs =>
    .ok (.hdrBuild dst src ident flags body, bs)

/-- The operands that belong to a code byte, or R95's "every other code byte is illegal". -/
def readOperands (code : Byte) (bs : Bytes) : Read Instr :=
  match code.toNat with
  | 0x01 => readInit bs
  | 0x02 => readThen (readNat bs) fun h bs => .ok (.onReceive h, bs)
  | 0x03 => readSend bs
  | 0x04 => readSendToWait bs
  | 0x05 => .ok (.close, bs)
  | 0x10 => .ok (.setIdle, bs)
  | 0x11 => .ok (.setTx, bs)
  | 0x12 => .ok (.setRx, bs)
  | 0x13 => .ok (.setCad, bs)
  | 0x14 => .ok (.sleep, bs)
  | 0x20 => readThen (readByte bs) fun d bs => readThen (readByte bs) fun i bs => .ok (.sendAck d i, bs)
  | 0x21 => .ok (.waitPacketSent, bs)
  | 0x22 => .ok (.waitCad, bs)
  | 0x40 => readHdrBuild bs
  | 0x41 => readThen (readBytes bs) fun p bs => .ok (.hdrParse p, bs)
  | 0x42 => readThen (readByte bs) fun a bs => .ok (.addrAccept a, bs)
  | 0x43 => readThen (readByte bs) fun f bs => .ok (.flagIsAck f, bs)
  | 0x44 => .ok (.seqNext, bs)
  | 0x45 => .ok (.ackMatch, bs)
  | 0x48 => readThen (readBytes bs) fun p bs => .ok (.encWrap p, bs)
  | 0x49 => readThen (readBytes bs) fun b bs => .ok (.encUnwrap b, bs)
  | 0x4A => readThen (readByte bs) fun s bs => readThen (readByte bs) fun q bs => .ok (.sigMetrics s q, bs)
  | 0x80 => .ok (.irq, bs)
  | _ => .error (.illegalCode code)

/-- The first command record of a byte sequence, and the bytes after it. -/
def decodePrefix : Bytes → Read Instr
  | [] => .error .emptyRecord
  | code :: bs => readOperands code bs

/-- A command record: exactly one operation, no byte left over (R95). -/
def decodeRecord (bs : Bytes) : Except Reject Instr :=
  match decodePrefix bs with
  | .error e => .error e
  | .ok (i, []) => .ok i
  | .ok (_, _ :: _) => .error .trailing

/-- A received packet of 4 to 255 bytes, classified by bit 0 of its flag byte (R80, R84, R91). -/
def decodeFrame : Bytes → Except Reject Instr
  | dst :: src :: ident :: flags :: body =>
    if 251 < body.length then .error .longFrame
    else if flags.getLsbD 0 then .ok (.frameAck dst src ident (flags.extractLsb' 1 7) body)
    else .ok (.frameData dst src ident (flags.extractLsb' 1 7) body)
  | _ => .error .shortFrame

/-- The decoder of the bytes that arrive on a channel. -/
def decode (ch : Channel) (bs : Bytes) : Except Reject Instr :=
  match ch with
  | .air => decodeFrame bs
  | _ => decodeRecord bs

/-! ## The encoder -/

/-- The digits of `n` with at most `fuel + 1` of them; `fuel = n` is always enough. -/
def natDigits : Nat → Nat → Bytes
  | 0, n => [BitVec.ofNat 8 n]
  | fuel + 1, n =>
    if n < 128 then [BitVec.ofNat 8 n]
    else BitVec.ofNat 8 (n % 128 + 128) :: natDigits fuel (n / 128)

/-- A natural operand. -/
def encodeNat (n : Nat) : Bytes := natDigits n n

/-- A bool operand. -/
def encodeBool (b : Bool) : Bytes := [if b then 1 else 0]

/-- A byte-sequence operand. -/
def encodeBytes (bs : Bytes) : Bytes := encodeNat bs.length ++ bs

/-- An integer operand. -/
def encodeInt : Int → Bytes
  | .ofNat n => 0 :: encodeNat n
  | .negSucc n => 1 :: encodeNat n

/-- A non-negative rational operand. -/
def encodeRat (q : Rat) : Bytes := encodeNat q.num.toNat ++ encodeNat (q.den - 1)

/-- An optional handle. -/
def encodeOptHandle : Option Handle → Bytes
  | none => encodeNat 0
  | some h => encodeNat (h + 1)

/-- The flag byte of a frame: bits 7:1 as received, bit 0 the ACK flag (R84). -/
def flagByte (reserved : BitVec 7) (ack : Bool) : Byte := reserved ++ BitVec.ofBool ack

/-- The bytes of an operation: a command record of R95, or the frame of R80. -/
def encode : Instr → Bytes
  | .init a =>
    0x01 :: (encodeNat a.channelId ++ (encodeNat a.interruptPin ++ (a.thisAddress :: (encodeRat a.frequencyMHz ++
      (encodeInt a.txPowerDbm ++ (encodeNat a.modemConfig ++ (encodeBool a.acksEnabled ++ encodeOptHandle a.cryptoCodec)))))))
  | .onReceive h => 0x02 :: encodeNat h
  | .send p d i f => 0x03 :: (encodeBytes p ++ [d, i, f])
  | .sendToWait p d f r => 0x04 :: (encodeBytes p ++ (d :: f :: encodeNat r))
  | .close => [0x05]
  | .setIdle => [0x10]
  | .setTx => [0x11]
  | .setRx => [0x12]
  | .setCad => [0x13]
  | .sleep => [0x14]
  | .sendAck d i => [0x20, d, i]
  | .waitPacketSent => [0x21]
  | .waitCad => [0x22]
  | .hdrBuild t f i g b => 0x40 :: t :: f :: i :: g :: encodeBytes b
  | .hdrParse p => 0x41 :: encodeBytes p
  | .addrAccept t => [0x42, t]
  | .flagIsAck f => [0x43, f]
  | .seqNext => [0x44]
  | .ackMatch => [0x45]
  | .encWrap p => 0x48 :: encodeBytes p
  | .encUnwrap b => 0x49 :: encodeBytes b
  | .sigMetrics s q => [0x4A, s, q]
  | .irq => [0x80]
  | .frameData t f i r b => t :: f :: i :: flagByte r false :: b
  | .frameAck t f i r b => t :: f :: i :: flagByte r true :: b

/-! ## The rows of spec/opcode_table.json -/

/-- The bytes of a table row's word, the rest of the operands zero: an 8-bit row is a code byte, a 32-bit
row is a header written with byte 0 in bits 31:24. 32 zero bytes hold the zero operands of every operation. -/
def tableBytes (nbits w : Nat) : Bytes :=
  if nbits = 32 then
    [BitVec.ofNat 8 (w / 16777216), BitVec.ofNat 8 (w / 65536), BitVec.ofNat 8 (w / 256), BitVec.ofNat 8 w]
  else BitVec.ofNat 8 w :: List.replicate 32 0

/-- What the decoder reads from a table row's word. -/
def decodeTableWord (nbits w : Nat) : Option Instr :=
  if nbits = 32 then
    match decodeFrame (tableBytes nbits w) with
    | .ok i => some i
    | .error _ => none
  else if nbits = 8 then
    match decodePrefix (tableBytes nbits w) with
    | .ok (i, _) => some i
    | .error _ => none
  else none

/-- The same word as a record or packet of its own: `tableBytes` cut after the last operand. -/
def tableRecord (nbits w : Nat) : Bytes :=
  if nbits = 32 then tableBytes nbits w
  else match decodePrefix (tableBytes nbits w) with
    | .ok (_, rest) => (tableBytes nbits w).take ((tableBytes nbits w).length - rest.length)
    | .error _ => tableBytes nbits w

end Sys2Proof
end

