-- ==== Sys2Proof/Config.lean ====
section
/-! DEFINITION. The implementation parameters of spec/00_scope.md R7: fixed values as plain definitions, OPEN ones as opaque constants without a body. The DEFAULT_ rows of R7 are the operand defaults of Syntax.lean. -/

namespace Sys2Proof.Config

/-- R7 ADDR_BROADCAST. -/
def addrBroadcast : Byte := 255

/-- R7 HEADER_LEN. -/
def headerLen : Nat := 4

/-- R7 MAX_PAYLOAD_LEN. -/
def maxPayloadLen : Nat := 251

/-- R7 MAX_FRAME_LEN. -/
def maxFrameLen : Nat := 255

/-- R7 FLAG_ACK_MASK: bit 0 counted from the least significant bit (D1). -/
def flagAckMask : Byte := 0x01

/-- R7 ACK_PAYLOAD: the character '!' as its ASCII byte. PRESUMED, log 20: the byte value is general knowledge (93 U14, G5). -/
def ackPayload : Bytes := [0x21]

/-- R7 ENC_BLOCK. -/
def encBlock : Nat := 16

/-- R7 WAIT_PACKET_SENT_TIMEOUT: 0.5 s. -/
def waitPacketSentTimeout : Time := ⟨1, 2, by decide, by decide⟩

/-- R7 CAD_TIMEOUT: 1 s. -/
def cadTimeout : Time := 1

/-- R7 RETRY_TIMEOUT: OPEN, non-negative (D14). -/
opaque retryTimeout : NNRat

/-- R7 POLL_INTERVAL: 0.1 s, not contractual (D13). -/
def pollInterval : Time := ⟨1, 10, by decide, by decide⟩

/-- R7 CAD_SETTLE_TIME: OPEN, non-negative (D16). -/
opaque cadSettleTime : NNRat

/-- R7 BAND_SPLIT_MHZ. -/
def bandSplitMHz : Rat := 779

/-- R7 RSSI_OFFSET_LOW: OPEN (D20). -/
opaque rssiOffsetLow : Metric

/-- RSSI_OFFSET_HIGH - RSSI_OFFSET_LOW: OPEN and not zero, since the two offsets are distinct (D20). -/
opaque rssiOffsetGap : Units Rat

/-- R7 RSSI_OFFSET_HIGH: OPEN, distinct from the low one (D20). -/
def rssiOffsetHigh : Metric := rssiOffsetLow + (rssiOffsetGap : Rat)

/-- R226 snr_of: the slope of a linear transform, OPEN. -/
opaque snrSlope : Rat

/-- R226 snr_of: its constant, OPEN. -/
opaque snrConst : Rat

/-- R226 snr_of: whether the raw byte is read as signed, OPEN. -/
opaque snrSigned : Bool

/-- R226 rssi_lin: the slope of a linear transform, OPEN. -/
opaque rssiSlope : Rat

/-- R226 rssi_lin: its constant, OPEN. -/
opaque rssiConst : Rat

/-- R7 ISR_REENTRANT. -/
def isrReentrant : Bool := true

/-- R7 FIFO_SHARED: OPEN (D36). -/
opaque fifoShared : Bool

/-- R7 SEQ_RESET. -/
def seqReset : Byte := 0

/-- R7 MODE_RESET. -/
def modeReset : Mode := .sleep

/-- 44_crypto_framing.md R190: the codec a handle stands for, on the blocks of each length.
DESIGN CHOICE, log 9: a permutation of the blocks of a length is exactly a pair of total functions with
LEN-E, LEN-D and INV, since the blocks of one length are finitely many. -/
opaque codecPerm : Handle → (n : Nat) → Equiv.Perm (Vector Byte n)

/-- 20_memory.md R52: the radio's register addresses, OPEN and distinct. -/
opaque regAddrPerm : Equiv.Perm Nat

/-- R52: the values written to the mode register, OPEN and distinct. -/
opaque modeValPerm : Equiv.Perm Byte

/-- R52: the values written to the interrupt mapping, OPEN and distinct. -/
opaque irqMapValPerm : Equiv.Perm Byte

/-- R57: the bit positions of the IRQ flags, OPEN and distinct. -/
opaque irqBitPerm : Equiv.Perm (Fin 8)

/-- R53: IRQ_CLEAR_ALL, OPEN. -/
opaque irqClearAll : Byte

end Sys2Proof.Config
end

