-- ==== Sys2Proof/Machine/State.lean ====
section
/-! DEFINITION. The state of the block, of the radio behind it, of its sequencers, and of the inputs still to come (spec/10_state.md, 20_memory.md R62), as plain data; the state after reset (R36). -/

namespace Sys2Proof.Machine

/-! ## Reasons a step stops -/

/-- No step of this hardware stops it with an error: "No handler step has an error exit" (R235), and the
error kinds of R230 are results, labels or the failed construction of R201. So there is no fault. -/
inductive Fault where
  deriving DecidableEq, Repr

/-- The cases the spec says a model refuses. All are safe: the case gets no meaning. -/
inductive Refusal where
  /-- Raised by an arm of `exec` whose instruction has no meaning yet. Safe. -/
  | notModelled (mnemonic : String)
  /-- Raised by every command but INIT before a successful INIT (R17, U8). Safe. -/
  | beforeInit
  /-- Raised by every command after an INIT that ended in HardwareInitError (R201, U13). Safe. -/
  | afterFailedInit
  /-- Raised by every command after CLOSE (R17, R205, U8). Safe. -/
  | afterClose
  /-- Raised by INIT on a live instance (R200, U8). Safe. -/
  | secondInit
  /-- Raised by every command issued while APP is busy (R17, U9). Safe. -/
  | appBusy
  /-- Raised by a command from inside the receive callback (R17, R272 item 3, U10). Safe. -/
  | fromCallback
  /-- Raised by CLOSE while a handler invocation is live (R205, U8). Safe. -/
  | closeWithLiveHandler
  /-- Raised by the step of a handler invocation left over when CLOSE released RADIO.REG (R205, U8). Safe. -/
  | handlerAfterClose
  /-- Raised by an operation that may not arrive on this channel (R94, R240). Safe. -/
  | accessLevel (ch : Channel)
  /-- Raised by bytes that are no operation (R95: refused). Safe. -/
  | illegalRecord (r : Reject)
  /-- Raised by ENC.WRAP and ENC.UNWRAP when `cfg.codec` is NONE: both are "Defined only when `cfg.codec = SOME c`" (R191, R193). Safe. -/
  | codecAbsent
  deriving DecidableEq, Repr

/-! ## The block's registers -/

/-- `S.cad_detected` (R23). -/
inductive CadFlag where
  | unknown
  | clear
  | detected
  deriving DecidableEq, Repr

/-- The ParsedPacket record (30_encoding.md R88). -/
structure ParsedPacket where
  message : Bytes
  headerTo : Byte
  headerFrom : Byte
  headerId : Byte
  headerFlags : Byte
  snr : Metric
  rssi : Metric
  deriving DecidableEq, Repr

/-- The configuration record `cfg` (R28, R30). -/
structure Cfg where
  channelId : Handle
  interruptPin : Handle
  frequencyMHz : Rat
  txPowerDbm : Int
  modemConfig : Handle
  acksEnabled : Bool
  codec : Option Handle
  waitPacketSentTimeout : Time
  cadTimeout : Time
  retryTimeout : Time
  deriving DecidableEq, Repr

/-- The implementation parameters of R7 that R7 leaves OPEN or that spec/95_test_vectors.md varies.
The model's own place for them, log 8: no step writes them, so a statement over all states holds for
every value of them. -/
structure Params where
  waitPacketSentTimeout : Time
  cadTimeout : Time
  retryTimeout : Time
  pollInterval : Time
  cadSettleTime : Time
  rssiOffsetLow : Metric
  rssiOffsetHigh : Metric
  snrSlope : Rat
  snrConst : Rat
  snrSigned : Bool
  rssiSlope : Rat
  rssiConst : Rat
  isrReentrant : Bool
  fifoShared : Bool
  deriving DecidableEq, Repr

/-- The life of the block instance: R200 (construction), R201 (failure), R205 and D24 (`closed`). -/
inductive Life where
  /-- No instance: the process has started and INIT has not run. -/
  | absent
  /-- INIT has passed Y1 and not reached Y3: the handler is not registered yet. -/
  | constructing
  /-- After INIT: the handler is registered on the interrupt line. -/
  | live
  /-- After HardwareInitError: no instance exists and none will (R201). -/
  | failed
  /-- After CLOSE: `closed` is true (R34, R205). -/
  | closed
  deriving DecidableEq, Repr

/-! ## The radio (20_memory.md R62) -/

/-- `hw_mode`, the radio's own mode. -/
inductive HwMode where
  | sleep
  | standby
  | tx
  | rxContinuous
  | cad
  deriving DecidableEq, Repr

/-- The three interrupt sources (R231). -/
inductive IrqSource where
  | txDone
  | rxDone
  | cadDone
  deriving DecidableEq, Repr

/-- A FlagSet (R57). -/
structure FlagSet where
  rxDone : Bool
  txDone : Bool
  cadDone : Bool
  cadDetected : Bool
  deriving DecidableEq, Repr

/-- The FIFO pointer (R53, R54, R58): an offset in the outgoing region, or a place in the received packet. -/
inductive FifoPtr where
  | outgoing (offset : Nat)
  | received (offset : Nat)
  deriving DecidableEq, Repr

/-- The radio's state, seen by the block only through the operations of R53. -/
structure Radio where
  hwMode : HwMode
  flags : FlagSet
  irqMap : Option IrqSource
  txBuf : Bytes
  txLen : Byte
  rxPkt : Bytes
  snrRaw : Byte
  rssiRaw : Byte
  fifoPtr : FifoPtr
  deriving DecidableEq, Repr

/-- The named radio operations (R53), each one transaction on RADIO.REG. -/
inductive RadioOp where
  | writeMode (m : HwMode)
  | mapIrq (src : IrqSource)
  | readIrqFlags
  | clearIrqFlags
  | readRxLength
  | seekRxStart
  | fifoRead (n : Nat)
  | fifoWriteAt0 (frame : Bytes)
  | writePayloadLength (n : Byte)
  | readSnrRaw
  | readRssiRaw
  deriving DecidableEq, Repr

/-- The steps of RADIO (R64). `stays`: whether `hw_mode` stays as it was instead of becoming STANDBY (open, U18). -/
inductive RadioEvent where
  | txDone (stays : Bool)
  | rxPacket (b : Bytes) (snr rssi : Byte)
  | cadDone (detected stays : Bool)
  deriving DecidableEq, Repr

/-! ## Results and observation labels -/

/-- The error kinds of R230. -/
inductive ErrorKind where
  | hardwareInitError
  | transmitTimeout
  | malformedPacket
  | foreignPacket
  | channelBusyTimeout
  | undecryptable
  | badArgument
  deriving DecidableEq, Repr

/-- What WAITCAD returns (R180, R99). -/
inductive CadResult where
  | clear
  | busy
  deriving DecidableEq, Repr

/-- The fields HDR.PARSE returns (R111). -/
structure Header where
  dst : Byte
  src : Byte
  ident : Byte
  flags : Byte
  body : Bytes
  deriving DecidableEq, Repr

/-- The result of an operation (R95's result column), or the error it raises (R12). -/
inductive Value where
  | unit
  | bool (b : Bool)
  | cad (r : CadResult)
  | byte (b : Byte)
  | bytes (bs : Bytes)
  | parsed (h : Option Header)
  | metrics (snr rssi : Metric)
  | raised (e : ErrorKind)
  deriving DecidableEq, Repr

/-- The labels a step carries: those of R16, the radio transactions of R53, and the result of a command (R17). -/
inductive Label where
  | txStart (frame : Bytes)
  | deliver (callback : Handle) (p : ParsedPacket)
  | drop (e : ErrorKind)
  | channelBusy
  | radio (op : RadioOp)
  | result (v : Value)
  deriving DecidableEq, Repr

/-! ## Control state of the sequencers (R31): an operation, its next label, its locals -/

/-- The steps of WaitUntil (R14). -/
inductive WaitLabel where
  | p0 | p1 | p2
  deriving DecidableEq, Repr

/-- The two conditions the block waits for (R172, R163). -/
inductive WaitCond where
  | modeNotTx
  | ackMatch
  deriving DecidableEq, Repr

/-- The steps of SETCAD (R134). -/
inductive SetCadLabel where
  | m1 | m2 | m3
  deriving DecidableEq, Repr

/-- The steps of WAITCAD (R180). -/
inductive WaitCadLabel where
  | k0 | k1 | k2 | k3
  deriving DecidableEq, Repr

/-- The steps of SEND (R150). -/
inductive SendLabel where
  | s0 | s1 | s2 | s3 | s4 | s5a | s5b | s5c | s6
  deriving DecidableEq, Repr

/-- The steps of SENDTOWAIT (R160). -/
inductive SendToWaitLabel where
  | w0 | w1 | w2 | w2a | w2b | w2c | w2d | w2e | w3
  deriving DecidableEq, Repr

/-- The steps of SENDACK (R170). -/
inductive SendAckLabel where
  | a1 | a2
  deriving DecidableEq, Repr

/-- The steps of CLOSE (R205). -/
inductive CloseLabel where
  | x1 | x2
  deriving DecidableEq, Repr

/-- The steps of INIT (R200). -/
inductive InitLabel where
  | y1 | y2 | y3
  deriving DecidableEq, Repr

/-- The steps of the handler (R215); `h2gRx` is the SETRX inside H2g. -/
inductive IrqLabel where
  | h1 | h2 | h2a | h2b | h2c | h2d | h2e | h2f | h2g | h2gRx | h2h | h2i | h3 | h4a | h4b | h5
  deriving DecidableEq, Repr

/-- SEND's operands. -/
structure SendArgs where
  payload : Bytes
  dest : Byte
  ident : Byte
  flags : Byte
  deriving DecidableEq, Repr

/-- SENDTOWAIT's operands. -/
structure SendToWaitArgs where
  payload : Bytes
  dest : Byte
  flags : Byte
  retries : Nat
  deriving DecidableEq, Repr

/-- The handler's locals (R31): the flags read at H1, the mode sample, the packet, its metrics, the parsed fields, the message. -/
structure IrqLocals where
  f : FlagSet
  m : Mode
  buf : Bytes
  snr : Metric
  rssi : Metric
  hdr : Header
  msg : Bytes
  deriving DecidableEq, Repr

/-- One running operation: the label of its next step (or of the call it waits in) and its locals.
`wake` is the time before which a sleeping agent does not step (R13). -/
inductive Frame where
  | init (l : InitLabel) (a : InitArgs)
  | close (l : CloseLabel)
  | wait (l : WaitLabel) (cond : WaitCond) (bound t0 wake : Time)
  | setCad (l : SetCadLabel) (wake : Time)
  | waitCad (l : WaitCadLabel) (t0 wake : Time)
  | send (l : SendLabel) (a : SendArgs) (frame : Bytes)
  | sendToWait (l : SendToWaitLabel) (a : SendToWaitArgs) (k : Nat) (r : Rat)
  | sendAck (l : SendAckLabel) (dest ident : Byte)
  | irq (l : IrqLabel) (x : IrqLocals)
  deriving DecidableEq, Repr

/-- The operations called in place, innermost first (R10). -/
abbrev Stack := List Frame

/-- APP's control state (R31). -/
inductive AppCtl where
  | idle
  | busy (stack : Stack)
  deriving DecidableEq, Repr

/-! ## Inputs -/

/-- The answers of the oracles to one step. Free values, log 10: nothing in the model constrains them,
and each use keeps only the bound its rule gives. -/
structure Oracle where
  /-- `draw()` (R163, D15), cut to [0, 1]. -/
  draw : Rat
  /-- The sampling gap `d` of R14 P2 and R180 K3, cut to [0, POLL_INTERVAL]. -/
  nap : Time
  /-- The result of a wait whose condition holds at or after its deadline (R14, U15). -/
  late : Bool
  /-- The bytes left of an unread packet after a FIFO write when FIFO_SHARED (R62, U20), a read away from the
  packet (log 21), and what R191 and R193 leave unstated of a long payload or an odd block (log 36). -/
  scratch : Bytes
  /-- Whether mapping the line to a flag already set raises an edge (R65, U17). -/
  remapEdge : Bool
  deriving DecidableEq, Repr

/-- What happens next: the order of moves is the interleaving of the agents (R10, R60), log 2. -/
inductive Move where
  /-- Bytes arrive on a channel and the operation they encode begins. -/
  | present (ch : Channel) (o : Oracle) (bytes : Bytes)
  /-- APP takes its next step. -/
  | app (o : Oracle)
  /-- The handler invocation at place `k` of `isrs` takes its next step. -/
  | isr (k : Nat) (o : Oracle)
  /-- RADIO takes a step (R64). -/
  | radio (e : RadioEvent)
  /-- Time passes (R13). -/
  | elapse (d : Time)
  /-- The process starts again and the external initialisation runs (R20, R263); `ok`: it succeeded. -/
  | boot (ok : Bool)
  deriving DecidableEq, Repr

/-- The whole machine. -/
structure State where
  /-- R7, the model's own copy (log 8). -/
  par : Params
  /-- R34 `closed`, R200, R201. -/
  life : Life
  /-- R200 Y1, R263. -/
  hwInitOk : Bool
  /-- R21. -/
  thisAddress : Byte
  /-- R22. -/
  mode : Mode
  /-- R23. -/
  cadDetected : CadFlag
  /-- R24. -/
  lastHeaderId : Byte
  /-- R25: EMPTY or SOME record. -/
  lastReceivedPayload : Option ParsedPacket
  /-- R27: NONE or SOME callback. -/
  receiveCallback : Option Handle
  /-- R28, R30. -/
  cfg : Cfg
  /-- R31, APP. -/
  app : AppCtl
  /-- R31, ISR: the live invocations, oldest first. -/
  isrs : List Stack
  /-- R31, R222. -/
  edgeLatched : Bool
  /-- R62. -/
  radio : Radio
  /-- R13 (the model's own, log 11). -/
  clock : Time
  /-- The oracles' answers to the step being taken (the model's own, log 10). -/
  oracle : Oracle
  /-- The inputs still to come (the model's own, log 2). -/
  script : List Move
  /-- The labels so far, oldest first (the model's own, log 16). -/
  obs : List Label
  deriving DecidableEq, Repr

/-! ## Named updates -/

/-- A step carries a label (R16). -/
def State.emit (s : State) (l : Label) : State := { s with obs := s.obs ++ [l] }

/-- `S.mode <- m`. -/
def State.setMode (s : State) (m : Mode) : State := { s with mode := m }

/-- `S.cad_detected <- c`. -/
def State.setCad (s : State) (c : CadFlag) : State := { s with cadDetected := c }

/-- `S.last_header_id <- v`. -/
def State.setSeq (s : State) (v : Byte) : State := { s with lastHeaderId := v }

/-- `S.last_received_payload <- SOME p`. -/
def State.setRecord (s : State) (p : ParsedPacket) : State := { s with lastReceivedPayload := some p }

/-- `S.receive_callback <- SOME h`. -/
def State.setCallback (s : State) (h : Handle) : State := { s with receiveCallback := some h }

/-- The radio after an operation or a step of its own. -/
def State.setRadio (s : State) (r : Radio) : State := { s with radio := r }

/-- APP's control state. -/
def State.setApp (s : State) (a : AppCtl) : State := { s with app := a }

/-- The live handler invocations. -/
def State.setIsrs (s : State) (l : List Stack) : State := { s with isrs := l }

/-- `edge_latched <- b`. -/
def State.setLatched (s : State) (b : Bool) : State := { s with edgeLatched := b }

/-- The instance's life. -/
def State.setLife (s : State) (l : Life) : State := { s with life := l }

/-- The CLOCK oracle's reading. -/
def State.setClock (s : State) (t : Time) : State := { s with clock := t }

/-- The inputs still to come. -/
def State.setScript (s : State) (l : List Move) : State := { s with script := l }

/-- The oracles' answers to the step being taken. -/
def State.setOracle (s : State) (o : Oracle) : State := { s with oracle := o }

/-! ## Reset -/

/-- The parameters of R7: its values, and the opaque constants where it says OPEN. -/
def Params.reset : Params where
  waitPacketSentTimeout := Config.waitPacketSentTimeout
  cadTimeout := Config.cadTimeout
  retryTimeout := Config.retryTimeout
  pollInterval := Config.pollInterval
  cadSettleTime := Config.cadSettleTime
  rssiOffsetLow := Config.rssiOffsetLow
  rssiOffsetHigh := Config.rssiOffsetHigh
  snrSlope := Config.snrSlope
  snrConst := Config.snrConst
  snrSigned := Config.snrSigned
  rssiSlope := Config.rssiSlope
  rssiConst := Config.rssiConst
  isrReentrant := Config.isrReentrant
  fifoShared := Config.fifoShared

/-- No flag set. -/
def FlagSet.empty : FlagSet := ⟨false, false, false, false⟩

/-- The radio as R263 items 3 and 4 require it; the rest "any value" (R36), DESIGN CHOICE, log 13. -/
def Radio.reset : Radio where
  hwMode := .sleep
  flags := FlagSet.empty
  irqMap := none
  txBuf := []
  txLen := 0
  rxPkt := []
  snrRaw := 0
  rssiRaw := 0
  fifoPtr := .outgoing 0

/-- The oracle field before any step. DESIGN CHOICE, log 10. -/
def Oracle.reset : Oracle where
  draw := 0
  nap := 0
  late := false
  scratch := []
  remapEdge := false

/-- The operands of the INIT that State.reset is the outcome of: V45-1's `INIT(ch, pin, 0x01)`, every
other operand its default. DESIGN CHOICE, log 3. -/
def InitArgs.reset : InitArgs where
  channelId := 0
  interruptPin := 0
  thisAddress := 0x01

/-- The configuration INIT writes (R200 step Y2). -/
def Cfg.ofInit (par : Params) (a : InitArgs) : Cfg where
  channelId := a.channelId
  interruptPin := a.interruptPin
  frequencyMHz := a.frequencyMHz
  txPowerDbm := a.txPowerDbm
  modemConfig := a.modemConfig
  acksEnabled := a.acksEnabled
  codec := a.cryptoCodec
  waitPacketSentTimeout := par.waitPacketSentTimeout
  cadTimeout := par.cadTimeout
  retryTimeout := par.retryTimeout

/-- The machine right after reset, that is after a successful INIT (R36, R260). -/
def State.reset : State where
  par := Params.reset
  life := .live
  hwInitOk := true
  thisAddress := InitArgs.reset.thisAddress
  mode := Config.modeReset
  cadDetected := .unknown
  lastHeaderId := Config.seqReset
  lastReceivedPayload := none
  receiveCallback := none
  cfg := Cfg.ofInit Params.reset InitArgs.reset
  app := .idle
  isrs := []
  edgeLatched := false
  radio := Radio.reset
  clock := 0
  oracle := Oracle.reset
  script := []
  obs := []

end Sys2Proof.Machine
end

