-- ==== Sys2Proof/Machine/Flags.lean ====
section
/-! DEFINITION. The three kinds of flag of spec/10_state.md R32: the ACK flag of a flag byte, the IRQ flags of the radio, and the verdict of a CAD cycle. -/

namespace Sys2Proof.Machine

/-- FLAG.ISACK (40_framing.md R113). -/
def isAck (flags : Byte) : Bool := flags &&& Config.flagAckMask != 0

/-- Whether a source's flag is in a FlagSet. -/
def flagOf (f : FlagSet) (src : IrqSource) : Bool :=
  match src with
  | .txDone => f.txDone
  | .rxDone => f.rxDone
  | .cadDone => f.cadDone

/-- A FlagSet with a source's flag added. -/
def addFlag (f : FlagSet) (src : IrqSource) : FlagSet :=
  match src with
  | .txDone => { f with txDone := true }
  | .rxDone => { f with rxDone := true }
  | .cadDone => { f with cadDone := true }

/-- Step H4a: DETECTED when the CAD-detected bit is in the flags read at H1, else CLEAR (60_exceptions.md R224). -/
def cadVerdict (f : FlagSet) : CadFlag :=
  if f.cadDetected then .detected else .clear

/-- The bit of the IRQ-flags register that stands for the `k`-th flag; the position is OPEN (20_memory.md R57). -/
def irqBit (k : Fin 8) : Byte := BitVec.twoPow 8 (Config.irqBitPerm k).val

/-- The four flags as the radio's register byte, other bits zero (R57). -/
def flagSetToByte (f : FlagSet) : Byte :=
  (if f.rxDone then irqBit 0 else 0) ||| (if f.txDone then irqBit 1 else 0) |||
    (if f.cadDone then irqBit 2 else 0) ||| (if f.cadDetected then irqBit 3 else 0)

/-- The register byte as a FlagSet: "Other bits of the register are ignored" (R57). -/
def flagSetOfByte (b : Byte) : FlagSet where
  rxDone := b.getLsbD (Config.irqBitPerm 0).val
  txDone := b.getLsbD (Config.irqBitPerm 1).val
  cadDone := b.getLsbD (Config.irqBitPerm 2).val
  cadDetected := b.getLsbD (Config.irqBitPerm 3).val

end Sys2Proof.Machine
end

