-- ==== Sys2Proof/Machine/Operands.lean ====
section
/-! DEFINITION. The framer's pure functions: lengths, header assembly and parsing, address acceptance, the acknowledgement match, the encryption framing, the signal metrics (spec/30_encoding.md R92, 40_framing.md, 44_crypto_framing.md, 60_exceptions.md R226). -/

namespace Sys2Proof.Machine

/-- `zeros(n)` of R9. -/
def zeros (n : Nat) : Bytes := List.replicate n 0

/-- The first `n` bytes of a sequence, zeros past its end: every sequence of `n` bytes is some `fit n`. -/
def fit (n : Nat) (bs : Bytes) : Bytes := (bs ++ zeros n).take n

/-! ## Lengths -/

/-- BodyLen (R92): `16 * ceil((1 + L) / 16)` with a codec. -/
def bodyLen (len : Nat) (codec : Option Handle) : Nat :=
  match codec with
  | none => len
  | some _ => Config.encBlock * ((1 + len + (Config.encBlock - 1)) / Config.encBlock)

/-- FrameLen (R92). -/
def frameLen (len : Nat) (codec : Option Handle) : Nat := Config.headerLen + bodyLen len codec

/-- The argument check of steps S0 and W0 (R151, R161): the frame would exceed 255 bytes. -/
def tooLong (payload : Bytes) (codec : Option Handle) : Bool :=
  decide (Config.maxFrameLen < frameLen payload.length codec)

/-! ## The header -/

/-- HDR.BUILD (R110). -/
def hdrBuild (dst src ident flags : Byte) (body : Bytes) : Bytes := [dst, src, ident, flags] ++ body

/-- HDR.PARSE (R111). -/
def hdrParse : Bytes → Option Header
  | dst :: src :: ident :: flags :: body => some ⟨dst, src, ident, flags, body⟩
  | _ => none

/-- ADDR.ACCEPT (R112). -/
def addrAccept (s : State) (dst : Byte) : Bool :=
  dst == s.thisAddress || dst == Config.addrBroadcast

/-- SEQ.NEXT's new id (R114): modulo 256. -/
def nextId (v : Byte) : Byte := v + 1

/-- ACK.MATCH (R115). -/
def ackMatches (s : State) : Bool :=
  match s.lastReceivedPayload with
  | none => false
  | some p => p.headerTo == s.thisAddress && isAck p.headerFlags && p.headerId == s.lastHeaderId

/-! ## The encryption framing -/

/-- The padding of R191: the least `p` that makes `1 + L + p` a multiple of 16. -/
def padLen (len : Nat) : Nat :=
  (Config.encBlock - (1 + len) % Config.encBlock) % Config.encBlock

/-- The plaintext block of R89 under a given length byte: that byte, payload, zero padding. -/
def wrapBlockWith (lengthByte : Byte) (payload : Bytes) : Bytes :=
  lengthByte :: payload ++ zeros (padLen payload.length)

/-- The plaintext block of R89: length byte, payload, zero padding. -/
def wrapBlock (payload : Bytes) : Bytes := wrapBlockWith (BitVec.ofNat 8 payload.length) payload

/-- ENC.WRAP over any `encrypt` (R191). -/
def wrapWith (encrypt : Bytes → Bytes) (payload : Bytes) : Bytes := encrypt (wrapBlock payload)

/-- The slice of R193, `d[1 : min(1 + L, len(d))]` with `L = d[0]`. -/
def unwrapBlock : Bytes → Bytes
  | [] => []
  | len :: rest => rest.take len.toNat

/-- ENC.UNWRAP over any `decrypt` (R193). -/
def unwrapWith (decrypt : Bytes → Bytes) (block : Bytes) : Bytes := unwrapBlock (decrypt block)

/-- A byte sequence as a block of its own length. -/
def blockOf (bs : Bytes) : Vector Byte bs.length := ⟨bs.toArray, List.size_toArray⟩

/-- `encrypt` of the codec a handle stands for (R190). -/
def encrypt (c : Handle) (bs : Bytes) : Bytes := (Config.codecPerm c bs.length (blockOf bs)).toList

/-- `decrypt` of the codec a handle stands for (R190). -/
def decrypt (c : Handle) (bs : Bytes) : Bytes := ((Config.codecPerm c bs.length).symm (blockOf bs)).toList

/-- ENC.WRAP with the codec `c` (R191). -/
def encWrap (c : Handle) (payload : Bytes) : Bytes := wrapWith (encrypt c) payload

/-- ENC.UNWRAP with the codec `c` (R193). -/
def encUnwrap (c : Handle) (block : Bytes) : Bytes := unwrapWith (decrypt c) block

/-- A block the codec is given, and the test of step H2f: non-zero and a multiple of 16 (R190, R193, R220). -/
def isBlock (bs : Bytes) : Bool := bs.length != 0 && bs.length % Config.encBlock == 0

/-- The body of an outgoing frame (step S4, R154). -/
def outBody (codec : Option Handle) (payload : Bytes) : Bytes :=
  match codec with
  | none => payload
  | some c => encWrap c payload

/-- The message of a received body (step H2f, R220). -/
def inMessage (codec : Option Handle) (body : Bytes) : Bytes :=
  match codec with
  | none => body
  | some c => if isBlock body then encUnwrap c body else body

/-! ## Signal metrics -/

/-- A raw status byte as a number, signed or not (R226: part of snr_of, OPEN). -/
def rawValue (signed : Bool) (b : Byte) : Rat :=
  if signed then (b.toInt : Rat) else (b.toNat : Rat)

/-- snr_of (R226): linear. -/
def snrOf (par : Params) (b : Byte) : Metric := par.snrSlope * rawValue par.snrSigned b + par.snrConst

/-- rssi_lin (R226): linear. -/
def rssiLin (par : Params) (b : Byte) : Metric := par.rssiSlope * rawValue false b + par.rssiConst

/-- The band offset (R29, R226): LOW below 779 MHz, HIGH from 779 on. -/
def bandOffset (par : Params) (frequencyMHz : Rat) : Metric :=
  if frequencyMHz < Config.bandSplitMHz then par.rssiOffsetLow else par.rssiOffsetHigh

/-- SIG.METRICS (R226), no rounding. -/
def sigMetrics (s : State) (snrRaw rssiRaw : Byte) : Metric × Metric :=
  (snrOf s.par snrRaw, rssiLin s.par rssiRaw + bandOffset s.par s.cfg.frequencyMHz)

end Sys2Proof.Machine
end

