-- ==== Sys2Proof/Machine/Ops.lean ====
section
/-! DEFINITION. The shared operations: taking an interrupt and returning from one (spec/60_exceptions.md R215, R222, R233, R234), the named radio operations (20_memory.md R53 to R67) with their register patterns, the mode requests (41_mode_control.md), and the gate every command passes (00_scope.md R17). -/

namespace Sys2Proof.Machine

/-! ## Taking an interrupt and returning from one -/

/-- A handler invocation about to take step H1; its locals are written before they are read. -/
def newInvocation : Stack :=
  [.irq .h1 ⟨FlagSet.empty, .sleep, [], 0, 0, ⟨0, 0, 0, 0, []⟩, []⟩]

/-- One rising edge arrives (R215, R222, R233): nothing is saved and nothing else changes. After INIT and
before CLOSE it starts an invocation at H1; with ISR_REENTRANT false and one running it is latched, and
while one is latched it is lost. -/
def takeEdge (s : State) : State :=
  match s.life with
  | .live =>
    if s.par.isrReentrant || s.isrs.isEmpty then s.setIsrs (s.isrs ++ [newInvocation])
    else s.setLatched true
  | _ => s

/-- The invocation at place `k` returns (R234): nothing is restored. With ISR_REENTRANT false a latched
edge then starts one new invocation (R222). -/
def returnFromIrq (k : Nat) (s : State) : State :=
  let s' := s.setIsrs (s.isrs.eraseIdx k)
  if !s'.par.isrReentrant && s'.edgeLatched then
    (s'.setLatched false).setIsrs (s'.isrs ++ [newInvocation])
  else s'

/-! ## The named radio operations (R53) -/

/-- The frame the radio sends when its mode becomes TX (R63): `tx_buf[0 : min(tx_len, len(tx_buf))]`. -/
def txFrame (r : Radio) : Bytes := r.txBuf.take r.txLen.toNat

/-- `Radio.WriteMode(m)`; writing TX carries `TxStart` (R63). -/
def radioWriteMode (m : HwMode) (s : State) : State :=
  let s' := (s.setRadio { s.radio with hwMode := m }).emit (.radio (.writeMode m))
  if m = .tx then s'.emit (.txStart (txFrame s.radio)) else s'

/-- `Radio.MapIrq(src)`. Whether it raises an edge when the flag is already set is open (R65, U17): a free value. -/
def radioMapIrq (src : IrqSource) (s : State) : State :=
  let s' := (s.setRadio { s.radio with irqMap := some src }).emit (.radio (.mapIrq src))
  if flagOf s.radio.flags src && s.oracle.remapEdge then takeEdge s' else s'

/-- `Radio.ReadIrqFlags()`: the flags do not change (R57). -/
def radioReadIrqFlags (s : State) : FlagSet × State :=
  (s.radio.flags, s.emit (.radio .readIrqFlags))

/-- `Radio.ClearIrqFlags()`: all of them at once (R57, R64). -/
def radioClearIrqFlags (s : State) : State :=
  (s.setRadio { s.radio with flags := FlagSet.empty }).emit (.radio .clearIrqFlags)

/-- `Radio.ReadRxLength()`, a u8 (R62, D31). -/
def radioReadRxLength (s : State) : Byte × State :=
  (BitVec.ofNat 8 s.radio.rxPkt.length, s.emit (.radio .readRxLength))

/-- `Radio.SeekRxStart()`: the FIFO pointer moves to the start of the received packet (R54). -/
def radioSeekRxStart (s : State) : State :=
  (s.setRadio { s.radio with fifoPtr := .received 0 }).emit (.radio .seekRxStart)

/-- The `n` bytes at the FIFO pointer. In the received packet they are the packet's (R62); elsewhere, or
past its end, the spec gives no value and they are free. -/
def fifoBytes (s : State) (n : Nat) : Bytes :=
  match s.radio.fifoPtr with
  | .received at_ =>
    let got := (s.radio.rxPkt.drop at_).take n
    got ++ fit (n - got.length) s.oracle.scratch
  | .outgoing _ => fit n s.oracle.scratch

/-- The FIFO pointer after `n` bytes were moved through it. R58 says that it moves and not by how much; that it
moves by `n` is the model's, log 34, DESIGN CHOICE. -/
def advancePtr (p : FifoPtr) (n : Nat) : FifoPtr :=
  match p with
  | .received k => .received (k + n)
  | .outgoing k => .outgoing (k + n)

/-- `Radio.FifoRead(n)`. It leaves the pointer `n` bytes further (log 34, DESIGN CHOICE). -/
def radioFifoRead (n : Nat) (s : State) : Bytes × State :=
  (fifoBytes s n, (s.setRadio { s.radio with fifoPtr := advancePtr s.radio.fifoPtr n }).emit (.radio (.fifoRead n)))

/-- The unread packet after a FIFO write (R62, D36, U20): as it was, or any bytes of the same length. -/
def rxAfterWrite (s : State) : Bytes :=
  if s.par.fifoShared then fit s.radio.rxPkt.length s.oracle.scratch else s.radio.rxPkt

/-- `Radio.FifoWriteAt0(frame)`. It leaves the pointer past the frame (log 34, DESIGN CHOICE). -/
def radioFifoWriteAt0 (frame : Bytes) (s : State) : State :=
  (s.setRadio { s.radio with txBuf := frame, rxPkt := rxAfterWrite s, fifoPtr := .outgoing frame.length }).emit
    (.radio (.fifoWriteAt0 frame))

/-- `Radio.WritePayloadLength(n)`. -/
def radioWritePayloadLength (n : Byte) (s : State) : State :=
  (s.setRadio { s.radio with txLen := n }).emit (.radio (.writePayloadLength n))

/-- `Radio.ReadSnrRaw()`. -/
def radioReadSnrRaw (s : State) : Byte × State := (s.radio.snrRaw, s.emit (.radio .readSnrRaw))

/-- `Radio.ReadRssiRaw()`. -/
def radioReadRssiRaw (s : State) : Byte × State := (s.radio.rssiRaw, s.emit (.radio .readRssiRaw))

/-! ## Their patterns on RADIO.REG (R51 to R53, R59): addresses and values are OPEN -/

/-- The registers R53 names. -/
inductive RadioReg where
  | fifo | opMode | irqFlags | irqMap | rxLength | pktSnr | pktRssi | payloadLength
  deriving DecidableEq, Repr

/-- REG_ADDR of a register: OPEN, distinct for distinct registers (R52). -/
def regAddr (r : RadioReg) : Nat := Config.regAddrPerm r.ctorIdx

/-- MODEVAL of a radio mode: OPEN and distinct (R52). -/
def modeVal (m : HwMode) : Byte := Config.modeValPerm (BitVec.ofNat 8 m.ctorIdx)

/-- IRQMAP of a source: OPEN and distinct (R52). -/
def irqMapVal (src : IrqSource) : Byte := Config.irqMapValPerm (BitVec.ofNat 8 src.ctorIdx)

/-- One access on RADIO.REG (R11, R51), or the setting of the FIFO pointer, whose pattern is not in the source (R53). -/
inductive BusAccess where
  | memRead (addr n : Nat)
  | memWrite (addr : Nat) (v : Bytes)
  | setFifoPtr (p : FifoPtr)
  deriving DecidableEq, Repr

/-- The pattern column of R53. -/
def busPattern : RadioOp → List BusAccess
  | .writeMode m => [.memWrite (regAddr .opMode) [modeVal m]]
  | .mapIrq src => [.memWrite (regAddr .irqMap) [irqMapVal src]]
  | .readIrqFlags => [.memRead (regAddr .irqFlags) 1]
  | .clearIrqFlags => [.memWrite (regAddr .irqFlags) [Config.irqClearAll]]
  | .readRxLength => [.memRead (regAddr .rxLength) 1]
  | .seekRxStart => [.setFifoPtr (.received 0)]
  | .fifoRead n => [.memRead (regAddr .fifo) n]
  | .fifoWriteAt0 frame => [.setFifoPtr (.outgoing 0), .memWrite (regAddr .fifo) frame]
  | .writePayloadLength n => [.memWrite (regAddr .payloadLength) [n]]
  | .readSnrRaw => [.memRead (regAddr .pktSnr) 1]
  | .readRssiRaw => [.memRead (regAddr .pktRssi) 1]

/-! ## RADIO's own steps (R64, R65) -/

/-- RADIO adds a source's flag; the line rises when the mapping names it and it was not set (R65). -/
def raiseFlag (src : IrqSource) (s : State) : State :=
  let s' := s.setRadio { s.radio with flags := addFlag s.radio.flags src }
  if s.radio.irqMap = some src && !flagOf s.radio.flags src then takeEdge s' else s'

/-- The radio's own mode after it finished: STANDBY, or as it was (U18). -/
def radioRests (stays : Bool) (s : State) : State :=
  if stays then s else s.setRadio { s.radio with hwMode := .standby }

/-- One step of RADIO (R64); a step that is not enabled changes nothing (log 12). -/
def radioStep (e : RadioEvent) (s : State) : State :=
  match e with
  | .txDone stays =>
    if s.radio.hwMode = .tx then raiseFlag .txDone (radioRests stays s) else s
  | .rxPacket b snr rssi =>
    if s.radio.hwMode = .rxContinuous ∧ b.length ≤ Config.maxFrameLen then
      raiseFlag .rxDone (s.setRadio { s.radio with rxPkt := b, snrRaw := snr, rssiRaw := rssi })
    else s
  | .cadDone detected stays =>
    if s.radio.hwMode = .cad then
      raiseFlag .cadDone
        (radioRests stays
          (s.setRadio { s.radio with flags := { s.radio.flags with cadDetected := s.radio.flags.cadDetected || detected } }))
    else s

/-! ## The mode requests -/

/-- SETIDLE M1 (R130). -/
def setIdle (s : State) : State :=
  if s.mode = .idle then s else (radioWriteMode .standby s).setMode .idle

/-- SETTX M1 (R131). -/
def setTx (s : State) : State :=
  if s.mode = .tx then s else (radioMapIrq .txDone (radioWriteMode .tx s)).setMode .tx

/-- SETRX M1 (R132). -/
def setRx (s : State) : State :=
  if s.mode = .rxContinuous then s
  else (radioMapIrq .rxDone (radioWriteMode .rxContinuous s)).setMode .rxContinuous

/-- SLEEP M1 (R133). -/
def sleepMode (s : State) : State :=
  if s.mode = .sleep then s else (radioWriteMode .sleep s).setMode .sleep

/-- SETCAD M3 (R134): the two writes, without testing the mode again. -/
def enterCad (s : State) : State :=
  (radioMapIrq .cadDone (radioWriteMode .cad s)).setMode .cad

/-! ## The oracles -/

/-- `draw()` (R163, D15): any rational in [0, 1]. -/
def drawOf (s : State) : Rat := max 0 (min 1 s.oracle.draw)

/-- The time an agent that sleeps between two samples wakes at: `0 <= d <= POLL_INTERVAL` later (R14 P2, R180 K3). -/
def napEnd (s : State) : Time := s.clock + max 0 (min s.par.pollInterval s.oracle.nap)

/-! ## The gate every command passes (R17) -/

/-- What R17 refuses of a command other than INIT. -/
def gate (s : State) : Option Refusal :=
  match s.app with
  | .busy _ => some .appBusy
  | .idle =>
    match s.life with
    | .absent => some .beforeInit
    | .constructing => some .beforeInit
    | .failed => some .afterFailedInit
    | .closed => some .afterClose
    | .live => none

/-- What R17 and R200 refuse of INIT. -/
def initGate (s : State) : Option Refusal :=
  match s.app with
  | .busy _ => some .appBusy
  | .idle =>
    match s.life with
    | .absent => none
    | .constructing => some .secondInit
    | .live => some .secondInit
    | .failed => some .afterFailedInit
    | .closed => some .afterClose

/-- What R17 and R205 refuse of CLOSE. -/
def closeGate (s : State) : Option Refusal :=
  match gate s with
  | some r => some r
  | none => if s.isrs.isEmpty then none else some .closeWithLiveHandler

/-- Go on when the gate is open. -/
def guarded (g : Option Refusal) (t : State) : Host.Outcome State Fault Refusal :=
  match g with
  | some r => .refused r
  | none => .next t

end Sys2Proof.Machine
end

