-- ==== Sys2Proof/Machine/Thread.lean ====
section
/-! DEFINITION. How an agent's control state advances (spec/00_scope.md R10, 10_state.md R31): what a step leaves, how a called operation hands its result to its caller, and the bounded wait WaitUntil (R14). -/

namespace Sys2Proof.Machine

/-- What one step of an agent leaves: it goes on with a control state, or its operation ended with a value. -/
inductive Turn where
  | go (st : Stack) (s : State)
  | done (v : Value) (s : State)
  deriving DecidableEq, Repr

/-- An operation returned `v` to its caller, the top of the stack, which continues at its next step (R11).
The results of WAITPACKETSENT and WAITCAD are ignored (R152, R153, R170); W2d returns true on a match (R160). -/
def resume (v : Value) : Stack → State → Turn
  | [], s => .done v s
  | .send .s1 a fr :: st, s => .go (.send .s2 a fr :: st) s
  | .send .s3 a fr :: st, s => .go (.send .s4 a fr :: st) s
  | .waitCad .k1 t0 _ :: st, s => .go (.waitCad .k2 t0 s.clock :: st) s
  | .sendToWait .w2a a k r :: st, s => .go (.sendToWait .w2b a k r :: st) s
  | .sendToWait .w2d a k r :: st, s =>
    if v = .bool true then resume (.bool true) st s else .go (.sendToWait .w2e a k r :: st) s
  | .sendAck .a1 d i :: st, s => .go (.sendAck .a2 d i :: st) s
  | .sendAck .a2 _ _ :: st, s => resume .unit st s
  | .irq .h2g x :: st, s => .go (.irq .h2gRx x :: st) s
  | f :: st, s => .go (f :: st) s

/-! ## WaitUntil (R14) -/

/-- The condition of a wait, over the state (R172, R163). -/
def condHolds (c : WaitCond) (s : State) : Bool :=
  match c with
  | .modeNotTx => s.mode != .tx
  | .ackMatch => ackMatches s

/-- P0: `t0 <- now()`. -/
def waitStart (c : WaitCond) (bound : Time) (caller : Stack) (s : State) : Turn :=
  .go (.wait .p1 c bound s.clock s.clock :: caller) s

/-- P1: one sample. A condition true at or after the deadline may return either value (U15). -/
def waitSample (c : WaitCond) (bound t0 wake : Time) (caller : Stack) (s : State) : Turn :=
  if condHolds c s then
    if s.clock - t0 < bound then resume (.bool true) caller s else resume (.bool s.oracle.late) caller s
  else if bound ≤ s.clock - t0 then resume (.bool false) caller s
  else .go (.wait .p2 c bound t0 wake :: caller) s

/-- P2: `Sleep(d)` for some `d` with `0 <= d <= POLL_INTERVAL`. -/
def waitNap (c : WaitCond) (bound t0 : Time) (caller : Stack) (s : State) : Turn :=
  .go (.wait .p1 c bound t0 (napEnd s) :: caller) s

/-- The step of WaitUntil at a label; an agent that sleeps does not step before its time (R13). -/
def stepWait (l : WaitLabel) (c : WaitCond) (bound t0 wake : Time) (caller : Stack) (s : State) : Turn :=
  match l with
  | .p0 => waitStart c bound caller s
  | .p1 =>
    if s.clock < wake then .go (.wait .p1 c bound t0 wake :: caller) s
    else waitSample c bound t0 wake caller s
  | .p2 => waitNap c bound t0 caller s

end Sys2Proof.Machine
end

