-- ==== Sys2Proof/Machine/Cad.lean ====
section
/-! DEFINITION. The steps of SETCAD (spec/41_mode_control.md R134) and of the channel-activity wait WAITCAD (43_cad.md R180 to R184). -/

namespace Sys2Proof.Machine

/-- SETCAD M1: return when already CAD, else SETIDLE in the same step. -/
def setCadM1 (caller : Stack) (s : State) : Turn :=
  if s.mode = .cad then resume .unit caller s else .go (.setCad .m2 s.clock :: caller) (setIdle s)

/-- The step of SETCAD at a label: M2 sleeps CAD_SETTLE_TIME, M3 writes the radio. -/
def stepSetCad (l : SetCadLabel) (wake : Time) (caller : Stack) (s : State) : Turn :=
  match l with
  | .m1 => setCadM1 caller s
  | .m2 => .go (.setCad .m3 (s.clock + s.par.cadSettleTime) :: caller) s
  | .m3 => if s.clock < wake then .go (.setCad .m3 wake :: caller) s else resume .unit caller (enterCad s)

/-- WAITCAD K0: CLEAR at once when detection is disabled (R181), else `t0 <- now()`. -/
def waitCadK0 (caller : Stack) (s : State) : Turn :=
  if s.cfg.cadTimeout = 0 then resume (.cad .clear) caller s else .go (.waitCad .k1 s.clock s.clock :: caller) s

/-- WAITCAD K2: one sample; exit (a), then exit (c), then branch (b) (R182, D17). -/
def waitCadK2 (t0 wake : Time) (caller : Stack) (s : State) : Turn :=
  if s.mode = .idle ∧ s.cadDetected = .clear then resume (.cad .clear) caller s
  else if s.cfg.cadTimeout ≤ s.clock - t0 then resume (.cad .busy) caller (s.emit .channelBusy)
  else if s.mode = .idle ∧ s.cadDetected = .detected then .go (.waitCad .k1 t0 wake :: caller) s
  else .go (.waitCad .k3 t0 wake :: caller) s

/-- The step of WAITCAD at a label; K1 runs SETCAD's steps in place. -/
def stepWaitCad (l : WaitCadLabel) (t0 wake : Time) (caller : Stack) (s : State) : Turn :=
  match l with
  | .k0 => waitCadK0 caller s
  | .k1 => setCadM1 (.waitCad .k1 t0 wake :: caller) s
  | .k2 => if s.clock < wake then .go (.waitCad .k2 t0 wake :: caller) s else waitCadK2 t0 wake caller s
  | .k3 => .go (.waitCad .k2 t0 (napEnd s) :: caller) s

end Sys2Proof.Machine
end

