-- ==== Sys2Proof/Machine/Send.lean ====
section
/-! DEFINITION. The steps of SEND, SENDTOWAIT and SENDACK (spec/42_send_retry_ack.md). -/

namespace Sys2Proof.Machine

/-! ## SEND (R150) -/

/-- S0: a frame of more than 255 bytes is a bad argument (R151). -/
def sendS0 (a : SendArgs) (caller : Stack) (s : State) : Turn :=
  if tooLong a.payload s.cfg.codec then resume (.bool false) caller s else .go (.send .s1 a [] :: caller) s

/-- S4: the frame (R154). -/
def sendFrame (a : SendArgs) (s : State) : Bytes :=
  hdrBuild a.dest s.thisAddress a.ident a.flags (outBody s.cfg.codec a.payload)

/-- The step of SEND at a label; S1 and S3 run WAITPACKETSENT and WAITCAD in place. -/
def stepSend (l : SendLabel) (a : SendArgs) (frame : Bytes) (caller : Stack) (s : State) : Turn :=
  match l with
  | .s0 => sendS0 a caller s
  | .s1 => waitStart .modeNotTx s.cfg.waitPacketSentTimeout (.send .s1 a frame :: caller) s
  | .s2 => .go (.send .s3 a frame :: caller) (setIdle s)
  | .s3 => waitCadK0 (.send .s3 a frame :: caller) s
  | .s4 => .go (.send .s5a a (sendFrame a s) :: caller) s
  | .s5a => .go (.send .s5b a frame :: caller) (radioFifoWriteAt0 frame s)
  | .s5b => .go (.send .s5c a frame :: caller) (radioWritePayloadLength (BitVec.ofNat 8 frame.length) s)
  | .s5c => .go (.send .s6 a frame :: caller) (setTx s)
  | .s6 => resume (.bool true) caller s

/-! ## SENDTOWAIT (R160) -/

/-- W0: the same argument check, before the id is incremented (R161). -/
def sendToWaitW0 (a : SendToWaitArgs) (caller : Stack) (s : State) : Turn :=
  if tooLong a.payload s.cfg.codec then resume (.bool false) caller s else .go (.sendToWait .w1 a 0 0 :: caller) s

/-- The step of SENDTOWAIT at a label; W2a runs SEND in place with the current id, W2d draws and waits (R162, R163). -/
def stepSendToWait (l : SendToWaitLabel) (a : SendToWaitArgs) (k : Nat) (r : Rat) (caller : Stack) (s : State) : Turn :=
  match l with
  | .w0 => sendToWaitW0 a caller s
  | .w1 => .go (.sendToWait .w2 a 0 r :: caller) (s.setSeq (nextId s.lastHeaderId))
  | .w2 => if k = a.retries + 1 then .go (.sendToWait .w3 a k r :: caller) s else .go (.sendToWait .w2a a k r :: caller) s
  | .w2a => sendS0 ⟨a.payload, a.dest, s.lastHeaderId, a.flags⟩ (.sendToWait .w2a a k r :: caller) s
  | .w2b => .go (.sendToWait .w2c a k r :: caller) (setRx s)
  | .w2c => if a.dest = Config.addrBroadcast then resume (.bool true) caller s else .go (.sendToWait .w2d a k r :: caller) s
  | .w2d => waitStart .ackMatch (s.cfg.retryTimeout * (1 + drawOf s)) (.sendToWait .w2d a k (drawOf s) :: caller) s
  | .w2e => .go (.sendToWait .w2 a (k + 1) r :: caller) s
  | .w3 => resume (.bool false) caller s

/-! ## SENDACK (R170) -/

/-- A1's SEND: the one byte '!', the echoed id, the ACK flag alone (R87, D2). -/
def ackArgs (dest ident : Byte) : SendArgs := ⟨Config.ackPayload, dest, ident, Config.flagAckMask⟩

/-- The step of SENDACK at a label; both labels run another operation in place. -/
def stepSendAck (l : SendAckLabel) (dest ident : Byte) (caller : Stack) (s : State) : Turn :=
  match l with
  | .a1 => sendS0 (ackArgs dest ident) (.sendAck .a1 dest ident :: caller) s
  | .a2 => waitStart .modeNotTx s.cfg.waitPacketSentTimeout (.sendAck .a2 dest ident :: caller) s

end Sys2Proof.Machine
end

