-- ==== Sys2Proof/Machine/Handler.lean ====
section
/-! DEFINITION. The steps of the interrupt handler (spec/60_exceptions.md R215 to R225). -/

namespace Sys2Proof.Machine

/-- H2: the mode fence, on the flags read at H1 and one sample of the mode (R216). -/
def irqBranch (m : Mode) (f : FlagSet) : IrqLabel :=
  if m = .rxContinuous ∧ f.rxDone then .h2a
  else if m = .tx ∧ f.txDone then .h3
  else if m = .cad ∧ f.cadDone then .h4a
  else .h5

/-- H2a: the packet's length, the pointer to its start, that many bytes (R217). -/
def readPacket (s : State) : Bytes × State :=
  let (n, s1) := radioReadRxLength s
  radioFifoRead n.toNat (radioSeekRxStart s1)

/-- H2c: the metrics of the packet. -/
def readMetrics (s : State) : (Metric × Metric) × State :=
  let (snrRaw, s1) := radioReadSnrRaw s
  let (rssiRaw, s2) := radioReadRssiRaw s1
  (sigMetrics s2 snrRaw rssiRaw, s2)

/-- H2d: parse, or drop a malformed packet (R218). -/
def irqParse (x : IrqLocals) (caller : Stack) (s : State) : Turn :=
  match hdrParse x.buf with
  | none => .go (.irq .h5 x :: caller) (s.emit (.drop .malformedPacket))
  | some h => .go (.irq .h2e { x with hdr := h } :: caller) s

/-- The condition of H2g (R221). -/
def mustAck (x : IrqLocals) (s : State) : Bool :=
  s.cfg.acksEnabled && x.hdr.dst == s.thisAddress && !isAck x.hdr.flags

/-- The record of H2h (R88, R221). -/
def packetOf (x : IrqLocals) : ParsedPacket where
  message := x.msg
  headerTo := x.hdr.dst
  headerFrom := x.hdr.src
  headerId := x.hdr.ident
  headerFlags := x.hdr.flags
  snr := x.snr
  rssi := x.rssi

/-- H2i: the label Deliver, for a data frame and a registered callback (R221). -/
def deliver (x : IrqLocals) (s : State) : State :=
  match s.receiveCallback with
  | none => s
  | some h => if isAck x.hdr.flags then s else s.emit (.deliver h (packetOf x))

/-- The step of the handler at a label; H2g runs SENDACK in place and then SETRX. A foreign packet returns
without step H5 (R219, 90_conflicts.md C1). -/
def stepIrq (l : IrqLabel) (x : IrqLocals) (caller : Stack) (s : State) : Turn :=
  match l with
  | .h1 => .go (.irq .h2 { x with f := (radioReadIrqFlags s).1 } :: caller) (radioReadIrqFlags s).2
  | .h2 => .go (.irq (irqBranch s.mode x.f) { x with m := s.mode } :: caller) s
  | .h2a => .go (.irq .h2b { x with buf := (readPacket s).1 } :: caller) (readPacket s).2
  | .h2b => .go (.irq .h2c x :: caller) (radioClearIrqFlags s)
  | .h2c =>
    .go (.irq .h2d { x with snr := (readMetrics s).1.1, rssi := (readMetrics s).1.2 } :: caller) (readMetrics s).2
  | .h2d => irqParse x caller s
  | .h2e =>
    if addrAccept s x.hdr.dst then .go (.irq .h2f x :: caller) s
    else resume .unit caller (s.emit (.drop .foreignPacket))
  | .h2f => .go (.irq .h2g { x with msg := inMessage s.cfg.codec x.hdr.body } :: caller) s
  | .h2g =>
    if mustAck x s then stepSendAck .a1 x.hdr.src x.hdr.ident (.irq .h2g x :: caller) s
    else .go (.irq .h2h x :: caller) s
  | .h2gRx => .go (.irq .h2h x :: caller) (setRx s)
  | .h2h => .go (.irq .h2i x :: caller) (s.setRecord (packetOf x))
  | .h2i => .go (.irq .h5 x :: caller) (deliver x s)
  | .h3 => .go (.irq .h5 x :: caller) (setIdle s)
  | .h4a => .go (.irq .h4b x :: caller) (s.setCad (cadVerdict x.f))
  | .h4b => .go (.irq .h5 x :: caller) (setIdle s)
  | .h5 => resume .unit caller (radioClearIrqFlags s)

end Sys2Proof.Machine
end

