-- ==== Sys2Proof/Machine/Sequencer.lean ====
section
/-! DEFINITION. INIT's and CLOSE's steps (spec/45_host_surface.md), the step of an agent whatever operation it runs, and the start of an operation on APP (00_scope.md R10, R17; 10_state.md R31). -/

namespace Sys2Proof.Machine

/-! ## INIT (R200) and CLOSE (R205) -/

/-- Y2: every state field and `cfg` (R200). -/
def initFields (a : InitArgs) (s : State) : State :=
  { s with
    cfg := Cfg.ofInit s.par a
    thisAddress := a.thisAddress
    mode := Config.modeReset
    cadDetected := .unknown
    lastHeaderId := Config.seqReset
    lastReceivedPayload := none
    receiveCallback := none }

/-- Y1: HardwareInitError when the external initialisation has not succeeded; no instance exists then (R201). -/
def initY1 (a : InitArgs) (caller : Stack) (s : State) : Turn :=
  if s.hwInitOk then .go (.init .y2 a :: caller) (s.setLife .constructing)
  else resume (.raised .hardwareInitError) caller (s.setLife .failed)

/-- The step of INIT at a label; Y3 registers the handler on the interrupt line. -/
def stepInit (l : InitLabel) (a : InitArgs) (caller : Stack) (s : State) : Turn :=
  match l with
  | .y1 => initY1 a caller s
  | .y2 => .go (.init .y3 a :: caller) (initFields a s)
  | .y3 => resume .unit caller (s.setLife .live)

/-- The step of CLOSE at a label: SLEEP, then `closed <- true` and the release of RADIO.REG. -/
def stepClose (l : CloseLabel) (caller : Stack) (s : State) : Turn :=
  match l with
  | .x1 => .go (.close .x2 :: caller) (sleepMode s)
  | .x2 => resume .unit caller (s.setLife .closed)

/-! ## Any operation -/

/-- The next step of the agent with this control state (R10). -/
def stepStack : Stack → State → Turn
  | [], s => .done .unit s
  | .init l a :: st, s => stepInit l a st s
  | .close l :: st, s => stepClose l st s
  | .wait l c bound t0 wake :: st, s => stepWait l c bound t0 wake st s
  | .setCad l wake :: st, s => stepSetCad l wake st s
  | .waitCad l t0 wake :: st, s => stepWaitCad l t0 wake st s
  | .send l a fr :: st, s => stepSend l a fr st s
  | .sendToWait l a k r :: st, s => stepSendToWait l a k r st s
  | .sendAck l d i :: st, s => stepSendAck l d i st s
  | .irq l x :: st, s => stepIrq l x st s

/-- APP after a step: busy with what is left, or idle with the result handed to the host (R17). -/
def settleApp (t : Turn) : State :=
  match t with
  | .go st s => s.setApp (.busy st)
  | .done v s => (s.setApp .idle).emit (.result v)

/-- A handler invocation after a step: with what is left, or returned (R234). -/
def settleIsr (k : Nat) (t : Turn) : State :=
  match t with
  | .go st s => s.setIsrs (s.isrs.set k st)
  | .done _ s => returnFromIrq k s

/-- APP takes its next step; an idle APP has none. -/
def appStep (s : State) : State :=
  match s.app with
  | .idle => s
  | .busy st => settleApp (stepStack st s)

/-- The invocation at place `k` takes its next step; there may be none at that place. After CLOSE the
capability its radio accesses need is released (R205, U8): refused. -/
def isrStep (k : Nat) (s : State) : Host.Outcome State Fault Refusal :=
  match s.isrs[k]? with
  | none => .next s
  | some st => if s.life = .closed then .refused .handlerAfterClose else .next (settleIsr k (stepStack st s))

/-- A command begins on APP: its first step is taken (log 1). -/
def startApp (f : Frame) (s : State) : Host.Outcome State Fault Refusal :=
  guarded (gate s) (settleApp (stepStack [f] s))

/-- A function evaluated for a command (R94 FUNC): its value is the result and nothing else changes. -/
def answer (v : Value) (s : State) : State := s.emit (.result v)

end Sys2Proof.Machine
end

