-- ==== Sys2Proof/Machine/Events.lean ====
section
/-! DEFINITION. The meanings of the interrupt event and of the two frame classes (spec/60_exceptions.md R215, R221; 30_encoding.md R91), and the bytes that reach the handler's classification. -/

namespace Sys2Proof.Machine

/-- IRQ (R215): one edge of the interrupt line starts an invocation at H1, or is latched, lost or ignored
as R222 and R205 say. Its steps H1 to H5 are steps of that invocation. -/
def execIrq (s : State) : Host.Outcome State Fault Refusal := .next (takeEdge s)

/-- The locals of an invocation after H2c: the packet, and the metrics of the radio's status bytes. -/
def packetLocals (packet : Bytes) (s : State) : IrqLocals where
  f := s.radio.flags
  m := .rxContinuous
  buf := packet
  snr := (sigMetrics s s.radio.snrRaw s.radio.rssiRaw).1
  rssi := (sigMetrics s s.radio.snrRaw s.radio.rssiRaw).2
  hdr := ⟨0, 0, 0, 0, []⟩
  msg := []

/-- Whether a packet can be received and handed to an invocation: the radio receives (R64) and the block's
record says so (H2, R216), so never in SLEEP (R206); the handler is registered (R205, R215); and with
ISR_REENTRANT false no invocation is running (R222). -/
def receives (s : State) : Bool :=
  decide (s.life = .live) && decide (s.mode = .rxContinuous) && decide (s.radio.hwMode = .rxContinuous) &&
    (s.par.isrReentrant || s.isrs.isEmpty)

/-- A handler invocation that has read this packet out of the FIFO (steps H1 to H2c done in mode
RX_CONTINUOUS) and takes step H2d: the classification of R91. Where no packet is received nothing changes
(R206, V45-7; log 6). -/
def handlePacket (packet : Bytes) (s : State) : State :=
  if receives s then
    match irqParse (packetLocals packet s) [] s with
    | .go st s' => s'.setIsrs (s'.isrs ++ [st])
    | .done _ s' => s'
  else s

/-- FRAME.DATA (R91): the handler has this packet, bit 0 of its flag byte clear. -/
def execFrameData (dst src ident : Byte) (reserved : BitVec 7) (body : Bytes) (s : State) : Host.Outcome State Fault Refusal :=
  .next (handlePacket (hdrBuild dst src ident (flagByte reserved false) body) s)

/-- FRAME.ACK (R91): the handler has this packet, bit 0 of its flag byte set. -/
def execFrameAck (dst src ident : Byte) (reserved : BitVec 7) (body : Bytes) (s : State) : Host.Outcome State Fault Refusal :=
  .next (handlePacket (hdrBuild dst src ident (flagByte reserved true) body) s)

/-- The process starts again: no instance, no agent at work; the external initialisation ran and leaves
the radio asleep with no flag set (R20, R263). The rest of the radio is as it was ("any value", R261). -/
def boot (ok : Bool) (s : State) : State :=
  { s with
    life := .absent
    hwInitOk := ok
    app := .idle
    isrs := []
    edgeLatched := false
    radio := { s.radio with hwMode := .sleep, flags := FlagSet.empty } }

/-- What arrives on a channel: an operation, a packet too short to be a frame (MalformedPacket, R218), one too
long to be received, or a refusal. -/
inductive Arrival where
  | op (i : Instr)
  | shortPacket (packet : Bytes)
  | unreceived
  | refuse (r : Refusal)
  deriving DecidableEq, Repr

/-- Fetching: the decoder on the bytes that arrive, and who may invoke what (R94, R240, R272 item 3). RADIO
receives no packet of more than 255 bytes (R64, R80), so one of these is not received (log 6). -/
def fetch (ch : Channel) (bytes : Bytes) : Arrival :=
  match ch with
  | .callback => .refuse .fromCallback
  | _ =>
    match decode ch bytes with
    | .error .shortFrame => .shortPacket bytes
    | .error .longFrame => .unreceived
    | .error e => .refuse (.illegalRecord e)
    | .ok i => if i.format.channel = ch then .op i else .refuse (.accessLevel ch)

/-- The moves other than an arrival: an agent's next step, a step of RADIO, time, or a restart. -/
def runMove (m : Move) (s : State) : Host.Outcome State Fault Refusal :=
  match m with
  | .present _ _ _ => .next s
  | .app o => .next (appStep (s.setOracle o))
  | .isr k o => isrStep k (s.setOracle o)
  | .radio e => .next (radioStep e s)
  | .elapse d => .next (s.setClock (s.clock + max 0 d))
  | .boot ok => .next (boot ok s)

end Sys2Proof.Machine
end

