-- ==== Sys2Proof/Machine/Framer.lean ====
section
/-! DEFINITION. The meanings of the nine FUNC operations (spec/40_framing.md, 44_crypto_framing.md, 60_exceptions.md R226), evaluated for a command: the value is the command's result. -/

namespace Sys2Proof.Machine

/-- HDR.BUILD (R110): total, on a body of any length; its bound is the caller's to check (log 35). -/
def execHdrBuild (dst src ident flags : Byte) (body : Bytes) (s : State) : Host.Outcome State Fault Refusal :=
  guarded (gate s) (answer (.bytes (hdrBuild dst src ident flags body)) s)

/-- HDR.PARSE (R111), on a packet of any length (log 35). -/
def execHdrParse (packet : Bytes) (s : State) : Host.Outcome State Fault Refusal :=
  guarded (gate s) (answer (.parsed (hdrParse packet)) s)

/-- ADDR.ACCEPT (R112). -/
def execAddrAccept (dst : Byte) (s : State) : Host.Outcome State Fault Refusal :=
  guarded (gate s) (answer (.bool (addrAccept s dst)) s)

/-- FLAG.ISACK (R113). -/
def execFlagIsAck (flags : Byte) (s : State) : Host.Outcome State Fault Refusal :=
  guarded (gate s) (answer (.bool (isAck flags)) s)

/-- SEQ.NEXT (R114): the one function that writes state. -/
def execSeqNext (s : State) : Host.Outcome State Fault Refusal :=
  guarded (gate s) (answer (.byte (nextId s.lastHeaderId)) (s.setSeq (nextId s.lastHeaderId)))

/-- ACK.MATCH (R115). -/
def execAckMatch (s : State) : Host.Outcome State Fault Refusal :=
  guarded (gate s) (answer (.bool (ackMatches s)) s)

/-- What R191 and R193 leave without a meaning: no codec. -/
def codecGate (s : State) : Option Refusal :=
  match gate s with
  | some r => some r
  | none =>
    match s.cfg.codec with
    | none => some .codecAbsent
    | some _ => none

/-- The free byte of a step, log 36: the oracle answers it, and every byte is some oracle's answer. -/
def freeByte (s : State) : Byte := s.oracle.scratch.headD 0

/-- The length byte of R89: `L` itself; above 255 it does not fit (R192), the spec states no byte, and it is a
free value (log 36, DESIGN CHOICE). -/
def lengthByte (len : Nat) (s : State) : Byte := if len ≤ 255 then BitVec.ofNat 8 len else freeByte s

/-- `c.decrypt(block)` of R193; for a length the codec is never called with (R190) the spec states no
bytes, and they are free, of any number (log 36, DESIGN CHOICE). -/
def decryption (c : Handle) (block : Bytes) (s : State) : Bytes :=
  if isBlock block then decrypt c block else s.oracle.scratch

/-- ENC.WRAP's result in a state (R191): the whole listing, over that length byte. -/
def wrapped (payload : Bytes) (s : State) : Bytes :=
  match s.cfg.codec with
  | some c => encrypt c (wrapBlockWith (lengthByte payload.length s) payload)
  | none => []

/-- ENC.UNWRAP's result in a state (R193): the whole listing, over that decryption. -/
def unwrapped (block : Bytes) (s : State) : Bytes :=
  match s.cfg.codec with
  | some c => unwrapBlock (decryption c block s)
  | none => []

/-- ENC.WRAP (R191): "Defined only when `cfg.codec = SOME c`". -/
def execEncWrap (payload : Bytes) (s : State) : Host.Outcome State Fault Refusal :=
  guarded (codecGate s) (answer (.bytes (wrapped payload s)) s)

/-- ENC.UNWRAP (R193): "Defined only when `cfg.codec = SOME c`". -/
def execEncUnwrap (block : Bytes) (s : State) : Host.Outcome State Fault Refusal :=
  guarded (codecGate s) (answer (.bytes (unwrapped block s)) s)

/-- SIG.METRICS (R226). -/
def execSigMetrics (snrRaw rssiRaw : Byte) (s : State) : Host.Outcome State Fault Refusal :=
  guarded (gate s) (answer (.metrics (sigMetrics s snrRaw rssiRaw).1 (sigMetrics s snrRaw rssiRaw).2) s)

end Sys2Proof.Machine
end

