-- ==== Sys2Proof/Machine/HostSurface.lean ====
section
/-! DEFINITION. The meanings of the five HOSTCMD operations: INIT, ONRECEIVE, SEND, SENDTOWAIT, CLOSE (spec/45_host_surface.md, 42_send_retry_ack.md). An operation of several labelled steps takes its first one here; the rest are steps of APP (log 1). -/

namespace Sys2Proof.Machine

/-- INIT (R200, R201): step Y1. -/
def execInit (a : InitArgs) (s : State) : Host.Outcome State Fault Refusal :=
  guarded (initGate s) (settleApp (stepStack [.init .y1 a] s))

/-- ONRECEIVE (R203): its one step O1. -/
def execOnReceive (callback : Handle) (s : State) : Host.Outcome State Fault Refusal :=
  guarded (gate s) (answer .unit (s.setCallback callback))

/-- SEND (R150): step S0. -/
def execSend (payload : Bytes) (dest ident flags : Byte) (s : State) : Host.Outcome State Fault Refusal :=
  startApp (.send .s0 ⟨payload, dest, ident, flags⟩ []) s

/-- SENDTOWAIT (R160): step W0. -/
def execSendToWait (payload : Bytes) (dest flags : Byte) (retries : Nat) (s : State) : Host.Outcome State Fault Refusal :=
  startApp (.sendToWait .w0 ⟨payload, dest, flags, retries⟩ 0 0) s

/-- CLOSE (R205): step X1. -/
def execClose (s : State) : Host.Outcome State Fault Refusal :=
  guarded (closeGate s) (settleApp (stepStack [.close .x1] s))

end Sys2Proof.Machine
end

