-- ==== Sys2Proof/Machine/LinkOps.lean ====
section
/-! DEFINITION. The meanings of SENDACK, WAITPACKETSENT and WAITCAD when invoked by themselves (spec/42_send_retry_ack.md R170, R172; 43_cad.md R180; 30_encoding.md R94). -/

namespace Sys2Proof.Machine

/-- SENDACK (R170): A1's first step, S0 of the acknowledgement's SEND. -/
def execSendAck (dest ident : Byte) (s : State) : Host.Outcome State Fault Refusal :=
  startApp (.sendAck .a1 dest ident) s

/-- WAITPACKETSENT (R172): step P0 of its WaitUntil. -/
def execWaitPacketSent (s : State) : Host.Outcome State Fault Refusal :=
  startApp (.wait .p0 .modeNotTx s.cfg.waitPacketSentTimeout s.clock s.clock) s

/-- WAITCAD (R180): step K0. -/
def execWaitCad (s : State) : Host.Outcome State Fault Refusal :=
  startApp (.waitCad .k0 s.clock s.clock) s

end Sys2Proof.Machine
end

