-- ==== Sys2Proof/Machine/ModeControl.lean ====
section
/-! DEFINITION. The meanings of the five mode requests (spec/41_mode_control.md). -/

namespace Sys2Proof.Machine

/-- SETIDLE (R130), one step. -/
def execSetIdle (s : State) : Host.Outcome State Fault Refusal :=
  guarded (gate s) (answer .unit (setIdle s))

/-- SETTX (R131), one step. -/
def execSetTx (s : State) : Host.Outcome State Fault Refusal :=
  guarded (gate s) (answer .unit (setTx s))

/-- SETRX (R132), one step. -/
def execSetRx (s : State) : Host.Outcome State Fault Refusal :=
  guarded (gate s) (answer .unit (setRx s))

/-- SETCAD (R134): step M1; M2 and M3 are steps of APP. -/
def execSetCad (s : State) : Host.Outcome State Fault Refusal :=
  startApp (.setCad .m1 s.clock) s

/-- SLEEP (R133), one step. -/
def execSleep (s : State) : Host.Outcome State Fault Refusal :=
  guarded (gate s) (answer .unit (sleepMode s))

end Sys2Proof.Machine
end

