-- ==== Sys2Proof/Machine/Dispatch.lean ====
section
/-! DEFINITION. One arm per operation of spec/opcode_table.json, each one call of its meaning. -/

namespace Sys2Proof.Machine

def exec (i : Instr) (s : State) : Host.Outcome State Fault Refusal :=
  match i with
  | .init a => Sys2Proof.Machine.execInit a s
  | .onReceive callback => Sys2Proof.Machine.execOnReceive callback s
  | .send payload dest ident flags => Sys2Proof.Machine.execSend payload dest ident flags s
  | .sendToWait payload dest flags retries => Sys2Proof.Machine.execSendToWait payload dest flags retries s
  | .close => Sys2Proof.Machine.execClose s
  | .setIdle => Sys2Proof.Machine.execSetIdle s
  | .setTx => Sys2Proof.Machine.execSetTx s
  | .setRx => Sys2Proof.Machine.execSetRx s
  | .setCad => Sys2Proof.Machine.execSetCad s
  | .sleep => Sys2Proof.Machine.execSleep s
  | .sendAck dest ident => Sys2Proof.Machine.execSendAck dest ident s
  | .waitPacketSent => Sys2Proof.Machine.execWaitPacketSent s
  | .waitCad => Sys2Proof.Machine.execWaitCad s
  | .hdrBuild dst src ident flags body => Sys2Proof.Machine.execHdrBuild dst src ident flags body s
  | .hdrParse packet => Sys2Proof.Machine.execHdrParse packet s
  | .addrAccept dst => Sys2Proof.Machine.execAddrAccept dst s
  | .flagIsAck flags => Sys2Proof.Machine.execFlagIsAck flags s
  | .seqNext => Sys2Proof.Machine.execSeqNext s
  | .ackMatch => Sys2Proof.Machine.execAckMatch s
  | .encWrap payload => Sys2Proof.Machine.execEncWrap payload s
  | .encUnwrap block => Sys2Proof.Machine.execEncUnwrap block s
  | .sigMetrics snrRaw rssiRaw => Sys2Proof.Machine.execSigMetrics snrRaw rssiRaw s
  | .irq => Sys2Proof.Machine.execIrq s
  | .frameData dst src ident reserved body => Sys2Proof.Machine.execFrameData dst src ident reserved body s
  | .frameAck dst src ident reserved body => Sys2Proof.Machine.execFrameAck dst src ident reserved body s

end Sys2Proof.Machine
end

