-- ==== Sys2Proof/Machine/Step.lean ====
section
/-! DEFINITION. One step of the machine: the next move of the script (spec/00_scope.md R10, 20_memory.md R60), and the placing of a table row's word where the next step fetches it. -/

namespace Sys2Proof.Machine

/-- The next move. With none left nothing happens: no agent has taken a step (R10; log 2). -/
def step (s : State) : Host.Outcome State Fault Refusal :=
  match s.script with
  | [] => .next s
  | .present ch o bytes :: rest =>
    match fetch ch bytes with
    | .op i => exec i ((s.setScript rest).setOracle o)
    | .shortPacket packet => .next (handlePacket packet ((s.setScript rest).setOracle o))
    | .unreceived => .next ((s.setScript rest).setOracle o)
    | .refuse r => .refused r
  | m :: rest => runMove m (s.setScript rest)

/-- The move that presents a table row's word on the channel its operation arrives on. -/
def rowMove (nbits w : Nat) : Move :=
  match decodeTableWord nbits w with
  | some i => .present i.format.channel Oracle.reset (tableRecord nbits w)
  | none => .present .host Oracle.reset (tableRecord nbits w)

/-- The configuration with a codec: the one it has, else the handle 0. -/
def withCodec (s : State) : State :=
  { s with cfg := { s.cfg with codec := some (s.cfg.codec.getD 0) } }

/-- The block in reception: what SETRX leaves of the mode, the radio and the mapping (R132). -/
def listening (s : State) : State :=
  { s with mode := .rxContinuous, radio := { s.radio with hwMode := .rxContinuous, irqMap := some .rxDone } }

/-- `s` with a table row's word as the next arrival. INIT constructs the instance (R200), so for its word
the machine is placed before construction; ENC.WRAP and ENC.UNWRAP are "Defined only when
`cfg.codec = SOME c`" (R191, R193), so for theirs a codec is configured; a frame is received in
RX_CONTINUOUS only (R64, R206), so for theirs the block listens. Nothing else changes (log 2). -/
def State.withFetchWord (s : State) (nbits w : Nat) : State :=
  match decodeTableWord nbits w with
  | some (.init _) => (s.setScript (rowMove nbits w :: s.script)).setLife .absent
  | some (.encWrap _) => withCodec (s.setScript (rowMove nbits w :: s.script))
  | some (.encUnwrap _) => withCodec (s.setScript (rowMove nbits w :: s.script))
  | some (.frameData _ _ _ _ _) => listening (s.setScript (rowMove nbits w :: s.script))
  | some (.frameAck _ _ _ _ _) => listening (s.setScript (rowMove nbits w :: s.script))
  | _ => s.setScript (rowMove nbits w :: s.script)

end Sys2Proof.Machine
end

