-- ==== Sys2Proof/Safety.lean ====
section
/-! DEFINITION. The terms claims are stated in: quiescence, the invariants of the control state, of the radio's relation to the mode record, and of the lengths, and the scripts that let one agent run alone. -/

namespace Sys2Proof.Machine

/-! ## Quiescence -/

/-- 70_reset_and_hazards.md R275: APP idle, no invocation live, no edge latched. -/
def quiescent (s : State) : Bool :=
  decide (s.app = .idle) && s.isrs.isEmpty && !s.edgeLatched

/-! ## Which operation runs where -/

/-- The operations APP runs on a live instance, CLOSE apart (R31). -/
def isAppFrame : Frame → Bool
  | .init _ _ => false
  | .close _ => false
  | .irq _ _ => false
  | .wait _ _ _ _ _ => true
  | .setCad _ _ => true
  | .waitCad _ _ _ => true
  | .send _ _ _ => true
  | .sendToWait _ _ _ _ => true
  | .sendAck _ _ _ => true

/-- The operations a handler invocation runs (R31, R215). -/
def isIsrFrame : Frame → Bool
  | .init _ _ => false
  | .close _ => false
  | .sendToWait _ _ _ _ => false
  | .irq _ _ => true
  | .wait _ _ _ _ _ => true
  | .setCad _ _ => true
  | .waitCad _ _ _ => true
  | .send _ _ _ => true
  | .sendAck _ _ _ => true

/-- Every live invocation runs handler operations only. -/
def isrsFit (s : State) : Bool := s.isrs.all fun st => st.all isIsrFrame

/-- The control state fits the instance's life: nothing runs where no instance is; construction runs INIT
alone; a live instance's APP runs host commands or CLOSE's last step; after CLOSE APP is idle. -/
def controlFits (s : State) : Prop :=
  match s.life with
  | .absent => s.app = .idle ∧ s.isrs = []
  | .failed => s.app = .idle ∧ s.isrs = []
  | .constructing =>
    s.isrs = [] ∧ ∃ a, s.app = .busy [.init .y2 a] ∨ (s.app = .busy [.init .y3 a] ∧ s.mode = .sleep)
  | .live =>
    isrsFit s = true ∧
      (s.app = .idle ∨ s.app = .busy [.close .x2] ∨ ∃ st, s.app = .busy st ∧ st.all isAppFrame = true)
  | .closed => isrsFit s = true ∧ s.app = .idle

/-! ## The radio and the mode record -/

/-- The radio mode a request for a mode writes (R136). -/
def hwOf : Mode → HwMode
  | .sleep => .sleep
  | .idle => .standby
  | .tx => .tx
  | .rxContinuous => .rxContinuous
  | .cad => .cad

/-- An instance exists whose fields mean something (after INIT, also after CLOSE). -/
def constructed (s : State) : Prop := s.life = .live ∨ s.life = .closed

/-- The radio is in the mode the block's record says, or has left TX or CAD for STANDBY by itself (R62, R64);
before an instance exists it sleeps (R263 item 3). -/
def radioTracks (s : State) : Prop :=
  (¬ constructed s → s.radio.hwMode = .sleep) ∧
  (constructed s → s.radio.hwMode = hwOf s.mode ∨ (s.radio.hwMode = .standby ∧ (s.mode = .tx ∨ s.mode = .cad)))

/-- The interrupt source routed to the line is the one of the mode (R231). -/
def mappingFits (s : State) : Prop :=
  constructed s →
    (s.mode = .tx → s.radio.irqMap = some .txDone) ∧
    (s.mode = .rxContinuous → s.radio.irqMap = some .rxDone) ∧
    (s.mode = .cad → s.radio.irqMap = some .cadDone)

/-! ## Lengths (R33, R80) -/

/-- The bounds on the locals of one running operation. -/
def frameFits (codec : Option Handle) : Frame → Prop
  | .send l a fr => fr.length ≤ 255 ∧ (l ≠ .s0 → tooLong a.payload codec = false)
  | .irq _ x => x.buf.length ≤ 255 ∧ x.hdr.body.length ≤ 251 ∧ x.msg.length ≤ 251
  | _ => True

/-- The bounds on everything APP runs. -/
def appLengthsFit (s : State) : Prop :=
  match s.app with
  | .idle => True
  | .busy st => ∀ f ∈ st, frameFits s.cfg.codec f

/-- A received packet and a frame to send have at most 255 bytes, a stored message at most 251 (R33, R80, R217). -/
def lengthsFit (s : State) : Prop :=
  s.radio.rxPkt.length ≤ 255 ∧ s.radio.txBuf.length ≤ 255 ∧
  (∀ p, s.lastReceivedPayload = some p → p.message.length ≤ 251) ∧
  appLengthsFit s ∧ ∀ st ∈ s.isrs, ∀ f ∈ st, frameFits s.cfg.codec f

/-! ## Runs and scripts -/

/-- `n` steps of the machine, stopping at a refusal. -/
def runSteps (n : Nat) (s : State) : Host.Outcome State Fault Refusal := Host.Core.run Sys2Proof.core n s

/-- What no operation but INIT and CLOSE touches: the parameters, the instance's life, its address, its
configuration and its callback (R20, R21, R27, R28). -/
def sameSession (s t : State) : Prop :=
  t.par = s.par ∧ t.life = s.life ∧ t.hwInitOk = s.hwInitOk ∧ t.thisAddress = s.thisAddress ∧ t.cfg = s.cfg ∧
    t.receiveCallback = s.receiveCallback

/-- What sending leaves of the receiving side of the radio: the status bytes, and the unread packet, byte for
byte when the FIFO regions are apart and else in its length (R62, D36). -/
def receiverKept (s t : State) : Prop :=
  t.radio.snrRaw = s.radio.snrRaw ∧ t.radio.rssiRaw = s.radio.rssiRaw ∧
    t.radio.rxPkt.length = s.radio.rxPkt.length ∧ (s.par.fifoShared = false → t.radio.rxPkt = s.radio.rxPkt)

/-- No edge arrived: the live invocations and the latch are as they were. -/
def edgesKept (s t : State) : Prop := t.isrs = s.isrs ∧ t.edgeLatched = s.edgeLatched

/-- Mapping the line to a flag raises no edge: no flag is set, or the oracle says so each time (R65, U17). -/
def remapQuiet (os : List Oracle) (s : State) : Prop :=
  s.radio.flags = ⟨false, false, false, false⟩ ∨ ∀ o ∈ os, o.remapEdge = false

/-- `n` steps of APP. -/
def appMoves (n : Nat) (o : Oracle) : List Move := List.replicate n (.app o)

/-- `n` steps of the handler invocation at place `k`. -/
def isrMoves (n k : Nat) (o : Oracle) : List Move := List.replicate n (.isr k o)

/-- One attempt of SENDTOWAIT with channel sensing disabled and no acknowledgement: W2 to W2d's first step,
a time `d`, the sample that finds the wait over, W2e. -/
def attemptMoves (d : Time) (o : Oracle) : List Move := appMoves 14 o ++ .elapse d :: appMoves 2 o

/-- `n` attempts, each with oracle answers of its own. -/
def attemptsMoves (d : Time) : List Oracle → List Move
  | [] => []
  | o :: os => attemptMoves d o ++ attemptsMoves d os

/-! ## A whole SEND -/

/-- What the channel-activity wait of a SEND meets (R180 to R183): detection is disabled; one cycle finds the
channel clear, a time `d` after SETCAD began its pause, the radio resting in CAD or not; or the time runs
out, a time `d` after SETCAD began its pause and a further `e`, with no cycle finished. -/
inductive Sensing where
  | disabled
  | clear (d : Time) (stays : Bool)
  | busy (d e : Time)
  deriving DecidableEq, Repr

/-- The conditions on the state under which it is met so: the pause is long enough (R134), the bound has
passed or not (R182), and the handler that serves the CAD-done interrupt starts from quiet. -/
def Sensing.fits (x : Sensing) (s : State) : Prop :=
  match x with
  | .disabled => s.cfg.cadTimeout = 0
  | .clear d _ =>
    s.cfg.cadTimeout ≠ 0 ∧ 0 ≤ d ∧ s.par.cadSettleTime ≤ d ∧ s.isrs = [] ∧ s.edgeLatched = false ∧
      s.radio.flags = ⟨false, false, false, false⟩
  | .busy d e =>
    s.cfg.cadTimeout ≠ 0 ∧ 0 ≤ d ∧ s.par.cadSettleTime ≤ d ∧ 0 ≤ e ∧ s.cfg.cadTimeout ≤ d + e

/-- The moves from S3 to the sample that ends the wait. -/
def Sensing.moves (o : Oracle) : Sensing → List Move
  | .disabled => appMoves 1 o
  | .clear d stays =>
    appMoves 3 o ++ .elapse d :: .app o :: .radio (.cadDone false stays) :: (isrMoves 5 0 o ++ appMoves 1 o)
  | .busy d e => appMoves 3 o ++ .elapse d :: .app o :: .elapse e :: appMoves 1 o

/-- The time it takes. -/
def Sensing.takes : Sensing → Time
  | .disabled => 0
  | .clear d _ => d
  | .busy d e => d + e

/-- The verdict it leaves: a finished cycle's, else the one before. -/
def Sensing.verdict (before : CadFlag) : Sensing → CadFlag
  | .disabled => before
  | .clear _ _ => .clear
  | .busy _ _ => before

/-- The labels it leaves, from mode IDLE on. -/
def Sensing.labels : Sensing → List Label
  | .disabled => []
  | .clear _ _ =>
    [.radio (.writeMode .cad), .radio (.mapIrq .cadDone), .radio .readIrqFlags, .radio (.writeMode .standby),
      .radio .clearIrqFlags]
  | .busy _ _ => [.radio (.writeMode .cad), .radio (.mapIrq .cadDone), .channelBusy]

/-- S1 and S2: the wait for a prior transmission ends at its first sample, or in mode TX after a time `g`. -/
def priorMoves (m : Mode) (g : Time) (o : Oracle) : List Move :=
  if m = .tx then .app o :: .elapse g :: appMoves 2 o else appMoves 3 o

/-- All the moves of a SEND after S0, begun in mode `m`. -/
def sendMoves (m : Mode) (g : Time) (x : Sensing) (o : Oracle) : List Move :=
  priorMoves m g o ++ (x.moves o ++ appMoves 5 o)

/-! ## Labels -/

/-- A send attempt (R63). -/
def isTxStart : Label → Bool
  | .txStart _ => true
  | _ => false

/-- What leaves the block toward a peer or the application: a send attempt or a delivery. -/
def isOutput : Label → Bool
  | .txStart _ => true
  | .deliver _ _ => true
  | _ => false

/-- A write on RADIO.REG: the writes of R53, not the reads. -/
def isRadioWrite : Label → Bool
  | .radio (.writeMode _) => true
  | .radio (.mapIrq _) => true
  | .radio .clearIrqFlags => true
  | .radio (.fifoWriteAt0 _) => true
  | .radio (.writePayloadLength _) => true
  | _ => false

end Sys2Proof.Machine
end

