-- ==== Sys2Proof/Certificates/Slice0/Obligations.lean ====
section
/-! DEFINITION. The statements about the model, each from the rules its docstring names. -/

open Sys2Proof Sys2Proof.Machine

/-! ## Encoding -/

/-- Decoding an encoded well-formed operation gives it back, every operand at every value: the command
records of R95 in the model's byte layout (log 4, DESIGN CHOICE), the frames of R80 and R84. -/
def Obligations.DecodeInvertsEncode : Prop :=
  ∀ i : Instr, wellFormed i = true → decode i.format.channel (encode i) = .ok i

/-- The other direction: bytes that decode are the encoding of what they decode to, so no two byte
sequences mean one operation (log 4, DESIGN CHOICE for records). -/
def Obligations.EncodeInvertsDecode : Prop :=
  (∀ bs i, decodeRecord bs = .ok i → wellFormed i = true ∧ i.format ≠ .frame ∧ encode i = bs) ∧
  (∀ bs i, decodeFrame bs = .ok i → wellFormed i = true ∧ i.format = .frame ∧ encode i = bs)

/-- A few records and packets written out by hand from R95, R80 and R84 decode to what they stand for (the
layout of a record's operands is log 4, DESIGN CHOICE). -/
def Obligations.HandWrittenWordsDecode : Prop :=
  decodeRecord [0x03, 0x02, 0x68, 0x69, 0x02, 0x07, 0x00] = .ok (.send [0x68, 0x69] 0x02 0x07 0x00) ∧
  decodeRecord [0x10] = .ok .setIdle ∧
  decodeRecord [0x44] = .ok .seqNext ∧
  decodeRecord [0x80] = .ok .irq ∧
  decodeFrame [0x01, 0x02, 0x05, 0x01, 0x21] = .ok (.frameAck 0x01 0x02 0x05 0 [0x21]) ∧
  decodeFrame [0x01, 0x02, 0x05, 0xFE, 0x41] = .ok (.frameData 0x01 0x02 0x05 0x7F [0x41]) ∧
  decodeFrame [0x01, 0x02, 0x05] = .error .shortFrame

/-- R95: "Every other code byte is illegal: a command record with it is refused." The codes listed are
those of R95's table. -/
def Obligations.OtherCodesAreRefused : Prop :=
  ∀ (code : Byte) (operands : Bytes),
    code.toNat ∉ [0x01, 0x02, 0x03, 0x04, 0x05, 0x10, 0x11, 0x12, 0x13, 0x14, 0x20, 0x21, 0x22, 0x40, 0x41, 0x42,
      0x43, 0x44, 0x45, 0x48, 0x49, 0x4A, 0x80] →
    decodeRecord (code :: operands) = .error (.illegalCode code) ∧
    ∀ (s : State) (o : Oracle) (rest : List Move), s.script = .present .host o (code :: operands) :: rest →
      step s = .refused (.illegalRecord (.illegalCode code))

/-! ## What a step runs -/

/-- A step whose next input is the bytes of an operation, on a channel it may arrive on, is that operation
on the state with that input taken and the oracles' answers set; nothing is added around it. -/
def Obligations.StepRunsTheDecodedOperation : Prop :=
  ∀ (s : State) (ch : Channel) (o : Oracle) (bytes : Bytes) (rest : List Move) (i : Instr),
    s.script = .present ch o bytes :: rest → decode ch bytes = .ok i → i.format.channel = ch →
    step s = exec i { s with script := rest, oracle := o }

/-- The other inputs: one labelled step of one agent (R10), a step of RADIO (R64), time (R13), a restart
(R20); a packet of more than 255 bytes, which RADIO never receives (R64, R80), changes nothing (log 6, DEDUCED); and
with no input left nothing happens (log 2, the model's choice; the moves of time and of a restart are log 11 and
log 15; that a restart finds the radio asleep with no flag set is what R263 items 3 and 4 require of the
initialisation, log 14, DEDUCED). -/
def Obligations.StepRunsOneAgent : Prop :=
  ∀ (s : State) (rest : List Move),
    (s.script = [] → step s = .next s) ∧
    (∀ o st, s.script = .app o :: rest → s.app = .busy st →
      step s = .next (settleApp (stepStack st { s with script := rest, oracle := o }))) ∧
    (∀ o k st, s.script = .isr k o :: rest → s.isrs[k]? = some st → s.life ≠ .closed →
      step s = .next (settleIsr k (stepStack st { s with script := rest, oracle := o }))) ∧
    (∀ o bytes, s.script = .present .air o bytes :: rest → 255 < bytes.length →
      step s = .next { s with script := rest, oracle := o }) ∧
    (∀ e, s.script = .radio e :: rest → step s = .next (radioStep e { s with script := rest })) ∧
    (∀ d, s.script = .elapse d :: rest → step s = .next { s with script := rest, clock := s.clock + max 0 d }) ∧
    (∀ ok, s.script = .boot ok :: rest →
      ∃ t, step s = .next t ∧ t.life = .absent ∧ t.app = .idle ∧ t.isrs = [] ∧ t.hwInitOk = ok ∧
        t.radio.hwMode = .sleep ∧ t.radio.flags = ⟨false, false, false, false⟩)

/-- R240: only the five host commands pass the host's port; an internal operation is refused there, and any
command from inside the receive callback is refused (R17). -/
def Obligations.HostPortTakesHostCommandsOnly : Prop :=
  ∀ (s : State) (o : Oracle) (bytes : Bytes) (rest : List Move),
    (∀ i, s.script = .present .host o bytes :: rest → decodeRecord bytes = .ok i → i.format ≠ .hostCmd →
      step s = .refused (.accessLevel .host)) ∧
    (s.script = .present .callback o bytes :: rest → step s = .refused .fromCallback)

/-- R17: what is refused of a command, whatever the command: while APP is busy, before a successful INIT, after
CLOSE; R200: a second INIT; R201: after a failed one. That internal operations and functions pass the same
gate as a host command is the model's inference (log 5, DEDUCED), and that a refusal ends the run log 18. -/
def Obligations.CommandsRefusedOutOfTurn : Prop :=
  ∀ (i : Instr) (s : State), i.format = .hostCmd ∨ i.format = .intCmd ∨ i.format = .func →
    (∀ st, s.app = .busy st → exec i s = .refused .appBusy) ∧
    (s.app = .idle → s.life = .closed → exec i s = .refused .afterClose) ∧
    (s.app = .idle → s.life = .failed → exec i s = .refused .afterFailedInit) ∧
    (s.app = .idle → s.life = .absent → (∀ a, i ≠ .init a) → exec i s = .refused .beforeInit) ∧
    (s.app = .idle → s.life = .live → ∀ a, i = .init a → exec i s = .refused .secondInit)

/-! ## INIT, ONRECEIVE, CLOSE -/

/-- R200, R36: INIT and its steps Y2 and Y3 leave every field at its reset value, register the handler, and
touch neither the radio nor anything else. -/
def Obligations.InitConstructsTheInstance : Prop :=
  ∀ (s : State) (a : InitArgs) (o₁ o₂ : Oracle), s.app = .idle → s.life = .absent → s.hwInitOk = true →
    s.script = [.app o₁, .app o₂] →
    ∃ t, exec (.init a) s = .next t ∧
      runSteps 2 t = .next
        { s with
          life := .live
          thisAddress := a.thisAddress
          mode := .sleep
          cadDetected := .unknown
          lastHeaderId := 0
          lastReceivedPayload := none
          receiveCallback := none
          cfg :=
            { channelId := a.channelId, interruptPin := a.interruptPin, frequencyMHz := a.frequencyMHz,
              txPowerDbm := a.txPowerDbm, modemConfig := a.modemConfig, acksEnabled := a.acksEnabled,
              codec := a.cryptoCodec, waitPacketSentTimeout := s.par.waitPacketSentTimeout,
              cadTimeout := s.par.cadTimeout, retryTimeout := s.par.retryTimeout }
          oracle := o₂
          script := []
          obs := s.obs ++ [.result .unit] }

/-- R201: HardwareInitError reaches the host, no instance exists, and every later command is refused. That the
error is a next state and no stop is the model's reading (log 17, DEDUCED), and that internal operations and
functions are refused with the commands is log 5, DEDUCED. -/
def Obligations.FailedInitLeavesNoInstance : Prop :=
  ∀ (s : State) (a : InitArgs), s.app = .idle → s.life = .absent → s.hwInitOk = false →
    ∃ t, exec (.init a) s = .next t ∧
      t = { s with life := .failed, obs := s.obs ++ [.result (.raised .hardwareInitError)] } ∧
      ∀ i : Instr, i.format = .hostCmd ∨ i.format = .intCmd ∨ i.format = .func → exec i t = .refused .afterFailedInit

/-- R203: the callback is registered, replacing any earlier one, and nothing else changes. -/
def Obligations.OnReceiveRegistersTheCallback : Prop :=
  ∀ (s : State) (h : Handle), s.app = .idle → s.life = .live →
    exec (.onReceive h) s = .next { s with receiveCallback := some h, obs := s.obs ++ [.result .unit] }

/-- R205: CLOSE sleeps the radio (no write when the mode is SLEEP already) and releases it; after that every
command is refused and an edge is ignored. With a live invocation CLOSE is refused (U8). That the radio keeps
its other fields across its sleep mode is the model's reading, R245 saying that it is not in the source (log 33,
DEDUCED); that internal operations and functions are refused with the commands is log 5, DEDUCED. -/
def Obligations.CloseSleepsAndReleases : Prop :=
  ∀ (s : State) (o : Oracle), s.app = .idle → s.life = .live →
    (s.isrs ≠ [] → exec .close s = .refused .closeWithLiveHandler) ∧
    (s.isrs = [] → s.script = [.app o] →
      ∃ t u, exec .close s = .next t ∧ runSteps 1 t = .next u ∧
        u = { s with
              mode := .sleep
              life := .closed
              radio := if s.mode = .sleep then s.radio else { s.radio with hwMode := .sleep }
              oracle := o
              script := []
              obs := s.obs ++ (if s.mode = .sleep then [] else [.radio (.writeMode .sleep)]) ++ [.result .unit] } ∧
        exec .irq u = .next u ∧
        ∀ i : Instr, i.format = .hostCmd ∨ i.format = .intCmd ∨ i.format = .func → exec i u = .refused .afterClose)

/-! ## SEND and SENDTOWAIT -/

/-- R151: the argument check S0, with its two bounds; a payload that passes goes on to S1. -/
def Obligations.SendChecksItsArgument : Prop :=
  ∀ (s : State) (p : Bytes) (d i f : Byte), s.app = .idle → s.life = .live →
    (255 < frameLen p.length s.cfg.codec →
      exec (.send p d i f) s = .next { s with obs := s.obs ++ [.result (.bool false)] }) ∧
    (frameLen p.length s.cfg.codec ≤ 255 →
      exec (.send p d i f) s = .next { s with app := .busy [.send .s1 ⟨p, d, i, f⟩ []] }) ∧
    (s.cfg.codec = none → (255 < frameLen p.length s.cfg.codec ↔ 251 < p.length)) ∧
    (∀ c, s.cfg.codec = some c → (255 < frameLen p.length s.cfg.codec ↔ 239 < p.length))

/-- R150, R152 to R156: a whole SEND, from any mode and whatever its channel-activity wait returns. From mode TX
the wait for the prior transmission times out and SEND goes on to S2 all the same (R152, V42-5); whether
WAITCAD finds detection disabled, the channel clear or the time run out, SEND goes on to S4 (R153). It
forces IDLE, writes the frame, then its length, then TX, and returns true with the mode TX and the id
untouched. -/
def Obligations.SendTransmitsItsFrame : Prop :=
  ∀ (s : State) (p : Bytes) (d i f : Byte) (o : Oracle) (x : Sensing) (g : Time),
    s.app = .idle → s.life = .live → (s.mode = .tx → 0 ≤ g ∧ s.cfg.waitPacketSentTimeout ≤ g) → x.fits s →
    frameLen p.length s.cfg.codec ≤ 255 → s.script = sendMoves s.mode g x o →
    ∃ t u, exec (.send p d i f) s = .next t ∧ runSteps s.script.length t = .next u ∧
      u.app = .idle ∧ u.mode = .tx ∧ u.radio.hwMode = .tx ∧ u.radio.irqMap = some .txDone ∧
      u.radio.txBuf = [d, s.thisAddress, i, f] ++ outBody s.cfg.codec p ∧
      u.radio.txLen.toNat = u.radio.txBuf.length ∧ u.radio.flags = s.radio.flags ∧
      sameSession s u ∧ u.lastHeaderId = s.lastHeaderId ∧ u.cadDetected = x.verdict s.cadDetected ∧
      u.lastReceivedPayload = s.lastReceivedPayload ∧
      u.clock = s.clock + (if s.mode = .tx then g else 0) + x.takes ∧ receiverKept s u ∧
      (remapQuiet [o] s → edgesKept s u) ∧
      u.obs = s.obs ++ (if s.mode = .idle then [] else [.radio (.writeMode .standby)]) ++ x.labels ++
        [.radio (.fifoWriteAt0 u.radio.txBuf), .radio (.writePayloadLength u.radio.txLen), .radio (.writeMode .tx),
          .txStart u.radio.txBuf, .radio (.mapIrq .txDone), .result (.bool true)]

/-- R161: the same check before the id is incremented, so a rejected call leaves no trace. -/
def Obligations.SendToWaitChecksItsArgument : Prop :=
  ∀ (s : State) (p : Bytes) (d f : Byte) (retries : Nat), s.app = .idle → s.life = .live →
    (255 < frameLen p.length s.cfg.codec →
      exec (.sendToWait p d f retries) s = .next { s with obs := s.obs ++ [.result (.bool false)] }) ∧
    (frameLen p.length s.cfg.codec ≤ 255 →
      exec (.sendToWait p d f retries) s = .next { s with app := .busy [.sendToWait .w1 ⟨p, d, f, retries⟩ 0 0] })

/-- R163, T5: a broadcast returns true after one SEND, without a wait and whatever the stored record; the id
is counted once and the block is left listening. -/
def Obligations.BroadcastReturnsAfterOneSend : Prop :=
  ∀ (s : State) (p : Bytes) (f : Byte) (retries : Nat) (o : Oracle),
    s.app = .idle → s.life = .live → s.cfg.cadTimeout = 0 → s.mode ≠ .tx →
    frameLen p.length s.cfg.codec ≤ 255 → s.script = appMoves 14 o →
    ∃ t u, exec (.sendToWait p 255 f retries) s = .next t ∧ runSteps 14 t = .next u ∧
      u.app = .idle ∧ u.mode = .rxContinuous ∧ u.radio.hwMode = .rxContinuous ∧ u.radio.irqMap = some .rxDone ∧
      u.lastHeaderId = s.lastHeaderId + 1 ∧ sameSession s u ∧ u.lastReceivedPayload = s.lastReceivedPayload ∧
      u.cadDetected = s.cadDetected ∧ u.clock = s.clock ∧ u.radio.flags = s.radio.flags ∧ receiverKept s u ∧
      (remapQuiet [o] s → edgesKept s u) ∧
      u.obs.filter isTxStart =
        s.obs.filter isTxStart ++ [.txStart ([255, s.thisAddress, s.lastHeaderId + 1, f] ++ outBody s.cfg.codec p)] ∧
      u.obs.getLast? = some (.result (.bool true))

/-- R164, T4: when no acknowledgement is stored, SENDTOWAIT makes exactly `retries + 1` send attempts, of one
and the same frame, and returns false; the id is counted once. Each attempt has oracle answers of its own,
and a time of at least twice RETRY_TIMEOUT passes in each wait. -/
def Obligations.NoAckExhaustsRetries : Prop :=
  ∀ (s : State) (p : Bytes) (d f : Byte) (os : List Oracle) (o : Oracle) (gap : Time),
    s.app = .idle → s.life = .live → s.cfg.cadTimeout = 0 → s.mode ≠ .tx → d ≠ 255 →
    frameLen p.length s.cfg.codec ≤ 255 → 0 ≤ s.cfg.retryTimeout → 2 * s.cfg.retryTimeout ≤ gap →
    ackMatches { s with lastHeaderId := s.lastHeaderId + 1 } = false → os ≠ [] →
    s.script = .app o :: attemptsMoves gap os ++ appMoves 2 o →
    ∃ t u, exec (.sendToWait p d f (os.length - 1)) s = .next t ∧ runSteps s.script.length t = .next u ∧
      u.app = .idle ∧ u.mode = .rxContinuous ∧ u.lastHeaderId = s.lastHeaderId + 1 ∧ sameSession s u ∧
      u.lastReceivedPayload = s.lastReceivedPayload ∧ u.cadDetected = s.cadDetected ∧
      u.clock = s.clock + os.length * gap ∧ u.radio.flags = s.radio.flags ∧ receiverKept s u ∧
      (remapQuiet os s → edgesKept s u) ∧
      u.obs.filter isTxStart =
        s.obs.filter isTxStart ++
          List.replicate os.length
            (.txStart ([d, s.thisAddress, s.lastHeaderId + 1, f] ++ outBody s.cfg.codec p)) ∧
      u.obs.getLast? = some (.result (.bool false))

/-- R163, R269: the first sample is taken at entry, so a record that matches already, however old, ends the
wait at once: SENDTOWAIT returns true after one send attempt and no handler step. -/
def Obligations.StaleRecordEndsTheWait : Prop :=
  ∀ (s : State) (p : Bytes) (d f : Byte) (retries : Nat) (o : Oracle) (r : ParsedPacket),
    s.app = .idle → s.life = .live → s.cfg.cadTimeout = 0 → s.mode ≠ .tx → d ≠ 255 →
    frameLen p.length s.cfg.codec ≤ 255 → 0 < s.cfg.retryTimeout →
    s.lastReceivedPayload = some r → r.headerTo = s.thisAddress → r.headerFlags.getLsbD 0 = true →
    r.headerId = s.lastHeaderId + 1 → s.script = appMoves 16 o →
    ∃ t u, exec (.sendToWait p d f retries) s = .next t ∧ runSteps 16 t = .next u ∧
      u.app = .idle ∧ u.mode = .rxContinuous ∧ u.lastHeaderId = s.lastHeaderId + 1 ∧
      u.lastReceivedPayload = some r ∧ sameSession s u ∧ u.cadDetected = s.cadDetected ∧ u.clock = s.clock ∧
      u.radio.flags = s.radio.flags ∧ receiverKept s u ∧ (remapQuiet [o] s → edgesKept s u) ∧
      u.obs.filter isTxStart =
        s.obs.filter isTxStart ++ [.txStart ([d, s.thisAddress, s.lastHeaderId + 1, f] ++ outBody s.cfg.codec p)] ∧
      u.obs.getLast? = some (.result (.bool true))

/-! ## The mode requests -/

/-- R130: SETIDLE, a no-op in IDLE and else one register write; the interrupt mapping is left as it was. -/
def Obligations.SetIdleWritesStandbyOnce : Prop :=
  ∀ s : State, s.app = .idle → s.life = .live →
    (s.mode = .idle → exec .setIdle s = .next { s with obs := s.obs ++ [.result .unit] }) ∧
    (s.mode ≠ .idle →
      exec .setIdle s = .next
        { s with
          mode := .idle
          radio := { s.radio with hwMode := .standby }
          obs := s.obs ++ [.radio (.writeMode .standby), .result .unit] })

/-- R131: SETTX, a no-op in TX; else the radio is set to TX, which starts the transmission of the frame and
length last written, and the line is mapped to transmission-complete. Re-mapping to a flag already set may
raise an edge or not (R65: free). -/
def Obligations.SetTxStartsTheTransmission : Prop :=
  ∀ s : State, s.app = .idle → s.life = .live →
    (s.mode = .tx → exec .setTx s = .next { s with obs := s.obs ++ [.result .unit] }) ∧
    (s.mode ≠ .tx →
      let u : State :=
        { s with
          mode := .tx
          radio := { s.radio with hwMode := .tx, irqMap := some .txDone }
          obs := s.obs ++ [.radio (.writeMode .tx), .txStart (s.radio.txBuf.take s.radio.txLen.toNat),
            .radio (.mapIrq .txDone), .result .unit] }
      exec .setTx s = .next (if s.radio.flags.txDone && s.oracle.remapEdge then takeEdge u else u))

/-- R132: SETRX, a no-op in RX_CONTINUOUS; else the radio is set to receive and the line is mapped to
packet-received, from TX too. Re-mapping to a flag already set may raise an edge or not (R65: free). -/
def Obligations.SetRxStartsReception : Prop :=
  ∀ s : State, s.app = .idle → s.life = .live →
    (s.mode = .rxContinuous → exec .setRx s = .next { s with obs := s.obs ++ [.result .unit] }) ∧
    (s.mode ≠ .rxContinuous →
      let u : State :=
        { s with
          mode := .rxContinuous
          radio := { s.radio with hwMode := .rxContinuous, irqMap := some .rxDone }
          obs := s.obs ++ [.radio (.writeMode .rxContinuous), .radio (.mapIrq .rxDone), .result .unit] }
      exec .setRx s = .next (if s.radio.flags.rxDone && s.oracle.remapEdge then takeEdge u else u))

/-- R133: SLEEP, a no-op in SLEEP and else one register write; all other state of the block is kept. That the
radio keeps its other fields is log 33, DEDUCED. -/
def Obligations.SleepWritesSleepOnce : Prop :=
  ∀ s : State, s.app = .idle → s.life = .live →
    (s.mode = .sleep → exec .sleep s = .next { s with obs := s.obs ++ [.result .unit] }) ∧
    (s.mode ≠ .sleep →
      exec .sleep s = .next
        { s with
          mode := .sleep
          radio := { s.radio with hwMode := .sleep }
          obs := s.obs ++ [.radio (.writeMode .sleep), .result .unit] })

/-- R134: SETCAD does nothing in CAD; else it forces IDLE in one step, pauses CAD_SETTLE_TIME, during which
its next step changes nothing, and then sets CAD, whatever the mode has become: M3 as a step is stated of
every state that APP has reached it in, and a run in which a handler invocation sets RX_CONTINUOUS during
the pause (step H2g's SETRX) is stated as well. -/
def Obligations.SetCadForcesIdleThenSettles : Prop :=
  ∀ (s : State) (o₁ o₂ o₃ : Oracle) (d : Time), s.app = .idle → s.life = .live →
    (s.mode = .cad → exec .setCad s = .next { s with obs := s.obs ++ [.result .unit] }) ∧
    (s.mode ≠ .cad →
      ∃ t, exec .setCad s = .next t ∧ t.mode = .idle ∧ t.radio.irqMap = s.radio.irqMap ∧
        t.obs = s.obs ++ (if s.mode = .idle then [] else [.radio (.writeMode .standby)]) ∧
        (s.script = [.app o₁, .app o₂] → 0 < s.par.cadSettleTime →
          ∃ u, runSteps 2 t = .next u ∧ u.mode = .idle ∧
            u.app = .busy [.setCad .m3 (s.clock + s.par.cadSettleTime)] ∧ u.obs = t.obs) ∧
        (s.script = [.app o₁, .elapse d, .app o₃] → s.par.cadSettleTime ≤ d → 0 ≤ d →
          ∃ u, runSteps 3 t = .next u ∧ u.app = .idle ∧ u.mode = .cad ∧ u.cadDetected = s.cadDetected ∧
            u.lastHeaderId = s.lastHeaderId ∧ u.lastReceivedPayload = s.lastReceivedPayload ∧ sameSession s u ∧
            u.clock = s.clock + d ∧ u.radio = { s.radio with hwMode := .cad, irqMap := some .cadDone } ∧
            (remapQuiet [o₃] s → edgesKept s u) ∧
            u.obs = t.obs ++ [.radio (.writeMode .cad), .radio (.mapIrq .cadDone), .result .unit]) ∧
        (∀ x, s.isrs[0]? = some [.irq .h2gRx x] → s.script = [.app o₁, .isr 0 o₂, .elapse d, .app o₃] →
          s.par.cadSettleTime ≤ d → 0 ≤ d →
          ∃ v u, runSteps 2 t = .next v ∧ v.mode = .rxContinuous ∧ runSteps 4 t = .next u ∧
            u.app = .idle ∧ u.mode = .cad ∧ u.cadDetected = s.cadDetected ∧ u.lastHeaderId = s.lastHeaderId ∧
            u.lastReceivedPayload = s.lastReceivedPayload ∧ sameSession s u ∧ u.clock = s.clock + d ∧
            u.radio = { s.radio with hwMode := .cad, irqMap := some .cadDone })) ∧
    (∀ (v : State) (wake : Time), v.app = .busy [.setCad .m3 wake] →
      (v.clock < wake → appStep v = v) ∧
      (wake ≤ v.clock →
        let u : State :=
          { v with
            app := .idle
            mode := .cad
            radio := { v.radio with hwMode := .cad, irqMap := some .cadDone }
            obs := v.obs ++ [.radio (.writeMode .cad), .radio (.mapIrq .cadDone), .result .unit] }
        appStep v = if v.radio.flags.cadDone && v.oracle.remapEdge then takeEdge u else u))

/-! ## The waits, SENDACK, WAITCAD -/

/-- R172: WAITPACKETSENT returns true at the first sample when the mode is not TX at entry, false at a sample
at or after its bound when it stayed TX, and writes no state. -/
def Obligations.WaitPacketSentOutcomes : Prop :=
  ∀ (s : State) (o : Oracle) (d : Time), s.app = .idle → s.life = .live → 0 < s.cfg.waitPacketSentTimeout →
    ∃ t, exec .waitPacketSent s = .next t ∧
      (s.mode ≠ .tx → s.script = [.app o] →
        runSteps 1 t = .next { s with oracle := o, script := [], obs := s.obs ++ [.result (.bool true)] }) ∧
      (s.mode = .tx → s.script = [.elapse d, .app o] → s.cfg.waitPacketSentTimeout ≤ d →
        runSteps 2 t = .next
          { s with clock := s.clock + d, oracle := o, script := [], obs := s.obs ++ [.result (.bool false)] })

/-- R14: one sample of WaitUntil(cond, T) by APP, in its four cases; a condition true at or after the deadline
may give either result (the answer `late` is free); after P2 any gap from 0 to POLL_INTERVAL can pass, and
until it has passed the agent does not sample. With T = 0 and the condition false the first sample fails. -/
def Obligations.WaitUntilSamples : Prop :=
  ∀ (s : State) (c : WaitCond) (bound t0 wake : Time), s.app = .busy [.wait .p1 c bound t0 wake] →
    (s.clock < wake → appStep s = s) ∧
    (wake ≤ s.clock →
      (condHolds c s = true → s.clock - t0 < bound →
        appStep s = { s with app := .idle, obs := s.obs ++ [.result (.bool true)] }) ∧
      (condHolds c s = false → bound ≤ s.clock - t0 →
        appStep s = { s with app := .idle, obs := s.obs ++ [.result (.bool false)] }) ∧
      (condHolds c s = true → bound ≤ s.clock - t0 →
        appStep s = { s with app := .idle, obs := s.obs ++ [.result (.bool s.oracle.late)] }) ∧
      (condHolds c s = false → s.clock - t0 < bound →
        ∃ t, appStep s = t ∧ t = { s with app := .busy [.wait .p2 c bound t0 wake] } ∧
          (∀ d, 0 ≤ d → d ≤ s.par.pollInterval →
            appStep { t with oracle := { t.oracle with nap := d } } =
              { t with oracle := { t.oracle with nap := d }, app := .busy [.wait .p1 c bound t0 (s.clock + d)] }) ∧
          (0 ≤ s.par.pollInterval → ∃ d, 0 ≤ d ∧ d ≤ s.par.pollInterval ∧
            appStep t = { t with app := .busy [.wait .p1 c bound t0 (s.clock + d)] })))

/-- R170: SENDACK sends the one byte 0x21 with the flag byte 0x01 and the echoed id, and returns when a nested
handler invocation has served the transmission-done interrupt (R171); the id counter is not touched.
Channel sensing is disabled. The byte 0x21 of '!' is log 20, PRESUMED. -/
def Obligations.SendAckEchoesTheId : Prop :=
  ∀ (s : State) (d i : Byte) (o : Oracle) (stays : Bool),
    s.app = .idle → s.life = .live → s.cfg.cadTimeout = 0 → s.mode ≠ .tx → s.isrs = [] → s.edgeLatched = false →
    s.radio.flags.txDone = false →
    s.script = appMoves 10 o ++ .radio (.txDone stays) :: (isrMoves 4 0 o ++ appMoves 1 o) →
    ∃ t u, exec (.sendAck d i) s = .next t ∧ runSteps 16 t = .next u ∧
      u.app = .idle ∧ u.isrs = [] ∧ u.mode = .idle ∧ u.lastHeaderId = s.lastHeaderId ∧
      u.lastReceivedPayload = s.lastReceivedPayload ∧ u.cadDetected = s.cadDetected ∧ sameSession s u ∧
      u.clock = s.clock ∧ u.edgeLatched = false ∧ receiverKept s u ∧ u.radio.hwMode = .standby ∧
      u.radio.flags = ⟨false, false, false, false⟩ ∧
      u.obs.filter isOutput =
        s.obs.filter isOutput ++ [.txStart ([d, s.thisAddress, i, 0x01] ++ outBody s.cfg.codec [0x21])] ∧
      u.obs.getLast? = some (.result .unit)

/-- R181: with detection disabled WAITCAD returns CLEAR at once, requests no mode and does not touch the radio;
else it goes on to K1 with the time of entry. -/
def Obligations.WaitCadDisabledIsClear : Prop :=
  ∀ s : State, s.app = .idle → s.life = .live →
    (s.cfg.cadTimeout = 0 → exec .waitCad s = .next { s with obs := s.obs ++ [.result (.cad .clear)] }) ∧
    (s.cfg.cadTimeout ≠ 0 → exec .waitCad s = .next { s with app := .busy [.waitCad .k1 s.clock s.clock] })

/-- R182: at one sample of WAITCAD by APP, first exit (a), then exit (c) with the label ChannelBusy, then
branch (b); UNKNOWN is neither clear nor detected, and any other mode only lets the time run out. -/
def Obligations.WaitCadTestsInOrder : Prop :=
  ∀ (s : State) (t0 wake : Time), s.app = .busy [.waitCad .k2 t0 wake] → wake ≤ s.clock →
    (s.mode = .idle → s.cadDetected = .clear →
      appStep s = { s with app := .idle, obs := s.obs ++ [.result (.cad .clear)] }) ∧
    (¬ (s.mode = .idle ∧ s.cadDetected = .clear) → s.cfg.cadTimeout ≤ s.clock - t0 →
      appStep s = { s with app := .idle, obs := s.obs ++ [.channelBusy, .result (.cad .busy)] }) ∧
    (s.mode = .idle → s.cadDetected = .detected → s.clock - t0 < s.cfg.cadTimeout →
      appStep s = { s with app := .busy [.waitCad .k1 t0 wake] }) ∧
    (s.mode ≠ .idle ∨ s.cadDetected = .unknown → s.clock - t0 < s.cfg.cadTimeout →
      appStep s = { s with app := .busy [.waitCad .k3 t0 wake] })

/-- V43-2, R180, R182, R224: one whole cycle: SETCAD, the radio reports CAD done with nothing detected, a
handler invocation serves it, and the next sample returns CLEAR with the mode IDLE. -/
def Obligations.WaitCadClearCycle : Prop :=
  ∀ (s : State) (o : Oracle) (d : Time) (stays : Bool),
    s.app = .idle → s.life = .live → s.cfg.cadTimeout ≠ 0 → s.mode ≠ .cad → s.isrs = [] → s.edgeLatched = false →
    s.radio.flags = ⟨false, false, false, false⟩ → s.par.cadSettleTime ≤ d → 0 ≤ d →
    s.script = appMoves 2 o ++ .elapse d :: .app o :: .radio (.cadDone false stays) :: (isrMoves 5 0 o ++ appMoves 1 o) →
    ∃ t u, exec .waitCad s = .next t ∧ runSteps 11 t = .next u ∧
      u.app = .idle ∧ u.isrs = [] ∧ u.mode = .idle ∧ u.cadDetected = .clear ∧ u.radio.hwMode = .standby ∧
      u.radio.flags = ⟨false, false, false, false⟩ ∧ u.lastHeaderId = s.lastHeaderId ∧
      u.lastReceivedPayload = s.lastReceivedPayload ∧ sameSession s u ∧ u.clock = s.clock + d ∧
      u.edgeLatched = false ∧ u.radio.irqMap = some .cadDone ∧ u.radio.txBuf = s.radio.txBuf ∧
      u.radio.txLen = s.radio.txLen ∧ u.radio.rxPkt = s.radio.rxPkt ∧ u.radio.fifoPtr = s.radio.fifoPtr ∧
      receiverKept s u ∧
      u.obs.filter isTxStart = s.obs.filter isTxStart ∧ u.obs.getLast? = some (.result (.cad .clear))

/-! ## The framer's functions -/

/-- R110, R111: HDR.BUILD and HDR.PARSE return their values and write no state; parsing a built frame gives
its fields back; fewer than four bytes give none. They are stated of a body and a packet of every length: R110
calls HDR.BUILD total and leaves its bound to the caller, and that the two listings hold past the lengths R110 and
R111 name (a body of 251 bytes, a packet of 255) is the model's reading (log 35, DEDUCED). -/
def Obligations.HeaderBuildAndParse : Prop :=
  ∀ (s : State) (dst src ident flags : Byte) (body packet : Bytes), s.app = .idle → s.life = .live →
    exec (.hdrBuild dst src ident flags body) s =
      .next { s with obs := s.obs ++ [.result (.bytes ([dst, src, ident, flags] ++ body))] } ∧
    exec (.hdrParse ([dst, src, ident, flags] ++ body)) s =
      .next { s with obs := s.obs ++ [.result (.parsed (some ⟨dst, src, ident, flags, body⟩))] } ∧
    (packet.length < 4 →
      exec (.hdrParse packet) s = .next { s with obs := s.obs ++ [.result (.parsed none)] })

/-- R112: own address or 255, whatever the rest of the frame; no state is written. -/
def Obligations.AddressAcceptance : Prop :=
  ∀ (s : State) (dst : Byte), s.app = .idle → s.life = .live →
    exec (.addrAccept dst) s =
      .next { s with obs := s.obs ++ [.result (.bool (decide (dst = s.thisAddress ∨ dst = 255)))] }

/-- R113: bit 0 of the flag byte, bits 7:1 ignored; what it decides: an acknowledgement is never answered
(H2g), never delivered (H2i), and is the only frame ACK.MATCH accepts. -/
def Obligations.AckFlagDecides : Prop :=
  ∀ (s : State) (flags : Byte), s.app = .idle → s.life = .live →
    exec (.flagIsAck flags) s = .next { s with obs := s.obs ++ [.result (.bool (flags.getLsbD 0))] } ∧
    (∀ x : IrqLocals, x.hdr.flags.getLsbD 0 = true → mustAck x s = false ∧ deliver x s = s) ∧
    (∀ p, s.lastReceivedPayload = some p → ackMatches s = true → p.headerFlags.getLsbD 0 = true)

/-- R114: SEQ.NEXT writes and returns the id plus one modulo 256, and nothing else changes. -/
def Obligations.SeqNextIncrements : Prop :=
  ∀ s : State, s.app = .idle → s.life = .live →
    exec .seqNext s =
      .next { s with lastHeaderId := s.lastHeaderId + 1, obs := s.obs ++ [.result (.byte (s.lastHeaderId + 1))] } ∧
    (s.lastHeaderId + 1).toNat = (s.lastHeaderId.toNat + 1) % 256

/-- R114, T2: `n` increments count modulo 256, and 256 of them are back at the start. -/
def Obligations.SequenceIdWraps : Prop :=
  ∀ (v : Byte) (n : Nat), (nextId^[n] v).toNat = (v.toNat + n) % 256 ∧ nextId^[256] v = v

/-- R115: ACK.MATCH, from the record's destination, flag and id alone; the record is not consumed. -/
def Obligations.AckMatchReadsThreeFields : Prop :=
  ∀ s : State, s.app = .idle → s.life = .live →
    exec .ackMatch s = .next { s with obs := s.obs ++ [.result (.bool (ackMatches s))] } ∧
    (s.lastReceivedPayload = none → ackMatches s = false) ∧
    (∀ p, s.lastReceivedPayload = some p →
      (ackMatches s = true ↔
        p.headerTo = s.thisAddress ∧ p.headerFlags.getLsbD 0 = true ∧ p.headerId = s.lastHeaderId))

/-- R191, R193: ENC.WRAP gives the codec the length byte, the payload and zero padding; ENC.UNWRAP returns the
bytes `[1 : min(1 + L, len)]` of what the codec gives back. Beyond 255 bytes, where no length byte holds `L`, the
block is the same but for that byte, and on a block that the codec is never called with the slice is taken from
other bytes: they are free values (log 36, DESIGN CHOICE), and any byte and any bytes occur. The rules say that
both are defined only with a codec; that they are REFUSED without one is the model's reading (log 18, DEDUCED). -/
def Obligations.EncryptionFraming : Prop :=
  ∀ s : State, s.app = .idle → s.life = .live →
    (∀ payload, s.cfg.codec = none → exec (.encWrap payload) s = .refused .codecAbsent) ∧
    (∀ block, s.cfg.codec = none → exec (.encUnwrap block) s = .refused .codecAbsent) ∧
    (∀ c payload, s.cfg.codec = some c → payload.length ≤ 255 →
      exec (.encWrap payload) s =
        .next { s with obs := s.obs ++ [.result (.bytes (encrypt c
          ([BitVec.ofNat 8 payload.length] ++ payload ++
            List.replicate ((16 - (1 + payload.length) % 16) % 16) 0)))] }) ∧
    (∀ c payload, s.cfg.codec = some c → 255 < payload.length →
      exec (.encWrap payload) s =
        .next { s with obs := s.obs ++ [.result (.bytes (encrypt c
          ([freeByte s] ++ payload ++ List.replicate ((16 - (1 + payload.length) % 16) % 16) 0)))] }) ∧
    (∀ c block l rest, s.cfg.codec = some c → block.length ≠ 0 → block.length % 16 = 0 →
      decrypt c block = l :: rest →
      exec (.encUnwrap block) s = .next { s with obs := s.obs ++ [.result (.bytes (rest.take l.toNat))] }) ∧
    (∀ c block, s.cfg.codec = some c → ¬ (block.length ≠ 0 ∧ block.length % 16 = 0) →
      exec (.encUnwrap block) s =
        .next { s with obs := s.obs ++ [.result (.bytes (unwrapBlock s.oracle.scratch))] }) ∧
    (∀ l : Byte, ∃ o : Oracle, freeByte { s with oracle := o } = l) ∧
    (∀ (l : Byte) (rest : Bytes), unwrapBlock (l :: rest) = rest.take l.toNat) ∧ unwrapBlock [] = []

/-- R192: the padding is the least that makes `1 + L + p` a multiple of 16, at most 15; the block is one length
byte, the payload and the padding. -/
def Obligations.PaddingIsLeast : Prop :=
  ∀ payload : Bytes,
    (1 + payload.length + padLen payload.length) % 16 = 0 ∧ padLen payload.length ≤ 15 ∧
    (∀ q, (1 + payload.length + q) % 16 = 0 → padLen payload.length ≤ q) ∧
    (wrapBlock payload).length = 1 + payload.length + padLen payload.length ∧
    (payload.length ≤ 255 → (wrapBlock payload).head?.map BitVec.toNat = some payload.length)

/-- R194, which the spec derives from R191 and R193: unwrapping a wrapped payload of at most 255 bytes gives it
back, for every pair of functions with (INV) and (LEN-E) of R190. -/
def Obligations.EncryptionRoundTrip : Prop :=
  ∀ enc dec : Bytes → Bytes,
    (∀ b : Bytes, b.length ≠ 0 → b.length % 16 = 0 → dec (enc b) = b ∧ (enc b).length = b.length) →
    ∀ payload : Bytes, payload.length ≤ 255 → unwrapWith dec (wrapWith enc payload) = payload

/-- R190's named properties (LEN-E), (LEN-D), (INV), of every codec of the model, and the round trip with it.
They hold because the model takes a codec as a permutation of the blocks of each length (log 9, DESIGN
CHOICE). -/
def Obligations.CodecHasItsThreeProperties : Prop :=
  (∀ (c : Handle) (b : Bytes),
    (encrypt c b).length = b.length ∧ (decrypt c b).length = b.length ∧ decrypt c (encrypt c b) = b) ∧
  (∀ (c : Handle) (payload : Bytes), payload.length ≤ 255 → encUnwrap c (encWrap c payload) = payload)

/-- R92, R154: FrameLen is the length of the frame SEND builds, with and without a codec. -/
def Obligations.FrameLenIsTheFramesLength : Prop :=
  ∀ (s : State) (a : SendArgs), (sendFrame a s).length = frameLen a.payload.length s.cfg.codec

/-- R226, T9: SIG.METRICS returns the two linear transforms, slope times raw byte plus constant, the signal
strength with the band's offset; between a configuration below 779 MHz and one from 779 MHz on the signal
strength differs by exactly the difference of the two offsets; they are distinct in this hardware. Whether
the SNR byte is read as signed is a parameter, as R226 leaves it open (log 8). -/
def Obligations.SignalMetrics : Prop :=
  (∀ (s : State) (snrRaw rssiRaw : Byte), s.app = .idle → s.life = .live →
    exec (.sigMetrics snrRaw rssiRaw) s =
      .next { s with obs := s.obs ++ [.result (.metrics
        (s.par.snrSlope * (if s.par.snrSigned then (snrRaw.toInt : Rat) else (snrRaw.toNat : Rat)) + s.par.snrConst)
        (s.par.rssiSlope * (rssiRaw.toNat : Rat) + s.par.rssiConst +
          if s.cfg.frequencyMHz < 779 then s.par.rssiOffsetLow else s.par.rssiOffsetHigh))] }) ∧
  (∀ (s t : State) (snrRaw rssiRaw : Byte), s.par = t.par → s.cfg.frequencyMHz < 779 → 779 ≤ t.cfg.frequencyMHz →
    (sigMetrics s snrRaw rssiRaw).2 - (sigMetrics t snrRaw rssiRaw).2 = s.par.rssiOffsetLow - s.par.rssiOffsetHigh ∧
    (sigMetrics s snrRaw rssiRaw).1 = (sigMetrics t snrRaw rssiRaw).1) ∧
  State.reset.par.rssiOffsetLow ≠ State.reset.par.rssiOffsetHigh

/-- R29: LOW below 779 MHz, HIGH from 779 MHz on; 779 itself is in the HIGH band. -/
def Obligations.BandSplitsAt779 : Prop :=
  ∀ (par : Params) (f : Rat),
    (f < 779 → bandOffset par f = par.rssiOffsetLow) ∧ (779 ≤ f → bandOffset par f = par.rssiOffsetHigh) ∧
    bandOffset par 779 = par.rssiOffsetHigh

/-! ## The interrupt and its handler -/

/-- R222, R233: an edge changes nothing but the list of invocations: it starts one at H1; with ISR_REENTRANT
false and one running it is latched instead, and one more edge is lost; the return of the running one then
serves the latched edge. Outside a live instance an edge is ignored. An
edge while INIT is under construction is log 7, DEDUCED. -/
def Obligations.EdgeStartsOrLatches : Prop :=
  ∀ s : State,
    (s.life ≠ .live → exec .irq s = .next s) ∧
    (s.life = .live → s.par.isrReentrant = true ∨ s.isrs = [] →
      ∃ x, exec .irq s = .next { s with isrs := s.isrs ++ [[.irq .h1 x]] }) ∧
    (s.life = .live → s.par.isrReentrant = false → s.isrs ≠ [] →
      exec .irq s = .next { s with edgeLatched := true }) ∧
    (s.par.isrReentrant = false → s.edgeLatched = true → ∀ st, s.isrs = [st] →
      ∃ x, returnFromIrq 0 s = { s with edgeLatched := false, isrs := [[.irq .h1 x]] })

/-- R223, V60-1: a transmission-done interrupt in mode TX sets IDLE, writes standby, clears the flags; the
invocation ends and nothing else changes. -/
def Obligations.TxDoneInterruptSetsIdle : Prop :=
  ∀ (s : State) (o : Oracle), s.life = .live → s.isrs = [] → s.edgeLatched = false →
    s.mode = .tx → s.radio.flags.txDone = true → s.script = isrMoves 4 0 o →
    ∃ t, exec .irq s = .next t ∧
      runSteps 4 t = .next
        { s with
          mode := .idle
          radio := { s.radio with hwMode := .standby, flags := ⟨false, false, false, false⟩ }
          oracle := o
          script := []
          obs := s.obs ++ [.radio .readIrqFlags, .radio (.writeMode .standby), .radio .clearIrqFlags] }

/-- R224, V60-11: a CAD-done interrupt in mode CAD writes the verdict first and the mode second; the verdict is
DETECTED when the bit was set in the flags read, CLEAR otherwise. -/
def Obligations.CadDoneInterruptGivesVerdict : Prop :=
  ∀ (s : State) (o : Oracle), s.life = .live → s.isrs = [] → s.edgeLatched = false →
    s.mode = .cad → s.radio.flags.cadDone = true → s.script = isrMoves 5 0 o →
    ∃ t u, exec .irq s = .next t ∧ runSteps 3 t = .next u ∧ u.mode = .cad ∧
      u.cadDetected = (if s.radio.flags.cadDetected then .detected else .clear) ∧
      runSteps 5 t = .next
        { s with
          mode := .idle
          cadDetected := if s.radio.flags.cadDetected then .detected else .clear
          radio := { s.radio with hwMode := .standby, flags := ⟨false, false, false, false⟩ }
          oracle := o
          script := []
          obs := s.obs ++ [.radio .readIrqFlags, .radio (.writeMode .standby), .radio .clearIrqFlags] }

/-- R216, R236: when no flag belongs to the mode, the handler does nothing but read the flags and clear them. -/
def Obligations.StaleInterruptOnlyClears : Prop :=
  ∀ (s : State) (o : Oracle), s.life = .live → s.isrs = [] → s.edgeLatched = false →
    ¬ (s.mode = .rxContinuous ∧ s.radio.flags.rxDone = true) → ¬ (s.mode = .tx ∧ s.radio.flags.txDone = true) →
    ¬ (s.mode = .cad ∧ s.radio.flags.cadDone = true) → s.script = isrMoves 3 0 o →
    ∃ t, exec .irq s = .next t ∧
      runSteps 3 t = .next
        { s with
          radio := { s.radio with flags := ⟨false, false, false, false⟩ }
          oracle := o
          script := []
          obs := s.obs ++ [.radio .readIrqFlags, .radio .clearIrqFlags] }

/-- R217, R218: a packet shorter than four bytes is read, dropped as malformed, and the flags are cleared twice;
nothing is stored, delivered or acknowledged. Where the read leaves the FIFO pointer, at the packet's end, is the
model's choice (log 34, DESIGN CHOICE). -/
def Obligations.MalformedPacketIsDropped : Prop :=
  ∀ (s : State) (o : Oracle), s.life = .live → s.isrs = [] → s.edgeLatched = false →
    s.mode = .rxContinuous → s.radio.flags.rxDone = true → s.radio.rxPkt.length < 4 → s.script = isrMoves 7 0 o →
    ∃ t, exec .irq s = .next t ∧
      runSteps 7 t = .next
        { s with
          radio :=
            { s.radio with
              flags := ⟨false, false, false, false⟩
              fifoPtr := .received s.radio.rxPkt.length }
          oracle := o
          script := []
          obs := s.obs ++ [.radio .readIrqFlags, .radio .readRxLength, .radio .seekRxStart,
            .radio (.fifoRead s.radio.rxPkt.length), .radio .clearIrqFlags, .radio .readSnrRaw, .radio .readRssiRaw,
            .drop .malformedPacket, .radio .clearIrqFlags] }

/-- R219, V60-3, C1: a packet for another address is read and dropped, and the handler returns without step
H5: the flags are cleared once. Nothing is stored, delivered or acknowledged. Where the read leaves the FIFO
pointer, at the packet's end, is the model's choice (log 34, DESIGN CHOICE). -/
def Obligations.ForeignPacketIsDropped : Prop :=
  ∀ (s : State) (o : Oracle) (dst src ident flags : Byte) (body : Bytes),
    s.life = .live → s.isrs = [] → s.edgeLatched = false →
    s.mode = .rxContinuous → s.radio.flags.rxDone = true →
    s.radio.rxPkt = [dst, src, ident, flags] ++ body → body.length ≤ 251 →
    dst ≠ s.thisAddress → dst ≠ 255 → s.script = isrMoves 7 0 o →
    ∃ t, exec .irq s = .next t ∧
      runSteps 7 t = .next
        { s with
          radio :=
            { s.radio with
              flags := ⟨false, false, false, false⟩
              fifoPtr := .received (4 + body.length) }
          oracle := o
          script := []
          obs := s.obs ++ [.radio .readIrqFlags, .radio .readRxLength, .radio .seekRxStart,
            .radio (.fifoRead (4 + body.length)), .radio .clearIrqFlags, .radio .readSnrRaw, .radio .readRssiRaw,
            .drop .foreignPacket] }

/-- R91, R220, R221: a data frame for this node or for all, with no acknowledgement due, is decrypted when the
configuration and its length say so, stored, and delivered to the registered callback. Where the block or the
radio is not in reception, nothing is received (R64, R206, V45-7). That the row hands the packet to an
invocation at H2d is log 6, DEDUCED. -/
def Obligations.DataFrameIsStoredAndDelivered : Prop :=
  ∀ (s : State) (o : Oracle) (dst src ident : Byte) (reserved : BitVec 7) (body : Bytes),
    (s.mode ≠ .rxContinuous ∨ s.radio.hwMode ≠ .rxContinuous →
      exec (.frameData dst src ident reserved body) s = .next s) ∧
    (s.life = .live → s.isrs = [] → s.edgeLatched = false → s.mode = .rxContinuous →
      s.radio.hwMode = .rxContinuous → dst = s.thisAddress ∨ dst = 255 →
      s.cfg.acksEnabled = false ∨ dst ≠ s.thisAddress → s.script = isrMoves 6 0 o →
      let p : ParsedPacket :=
        { message := inMessage s.cfg.codec body, headerTo := dst, headerFrom := src, headerId := ident,
          headerFlags := flagByte reserved false, snr := (sigMetrics s s.radio.snrRaw s.radio.rssiRaw).1,
          rssi := (sigMetrics s s.radio.snrRaw s.radio.rssiRaw).2 }
      ∃ t, exec (.frameData dst src ident reserved body) s = .next t ∧
        runSteps 6 t = .next
          { s with
            lastReceivedPayload := some p
            radio := { s.radio with flags := ⟨false, false, false, false⟩ }
            oracle := o
            script := []
            obs := s.obs ++ (match s.receiveCallback with | some h => [.deliver h p] | none => []) ++
              [.radio .clearIrqFlags] })

/-- R91, R221: an acknowledgement for this node or for all is stored, never delivered and never acknowledged,
whatever the configuration. Where the block or the radio is not in reception, nothing is received (R64, R206,
V45-7). That the row hands the packet to an invocation at H2d is log 6, DEDUCED. -/
def Obligations.AckFrameIsStoredOnly : Prop :=
  ∀ (s : State) (o : Oracle) (dst src ident : Byte) (reserved : BitVec 7) (body : Bytes),
    (s.mode ≠ .rxContinuous ∨ s.radio.hwMode ≠ .rxContinuous →
      exec (.frameAck dst src ident reserved body) s = .next s) ∧
    (s.life = .live → s.isrs = [] → s.edgeLatched = false → s.mode = .rxContinuous →
      s.radio.hwMode = .rxContinuous → dst = s.thisAddress ∨ dst = 255 → s.script = isrMoves 6 0 o →
      ∃ t, exec (.frameAck dst src ident reserved body) s = .next t ∧
        runSteps 6 t = .next
          { s with
            lastReceivedPayload := some
              { message := inMessage s.cfg.codec body, headerTo := dst, headerFrom := src, headerId := ident,
                headerFlags := flagByte reserved true, snr := (sigMetrics s s.radio.snrRaw s.radio.rssiRaw).1,
                rssi := (sigMetrics s s.radio.snrRaw s.radio.rssiRaw).2 }
            radio := { s.radio with flags := ⟨false, false, false, false⟩ }
            oracle := o
            script := []
            obs := s.obs ++ [.radio .clearIrqFlags] })

/-- R221, T7: a data frame for this node, with acknowledgements enabled, causes exactly one outgoing frame, the
acknowledgement with the id echoed, before the delivery; the record is stored, the block is back in
reception and the id counter is untouched. Channel sensing is disabled, and a nested invocation serves the
acknowledgement's transmission-done interrupt. The byte 0x21 of '!' is log 20, PRESUMED. -/
def Obligations.DataFrameIsAcknowledgedThenDelivered : Prop :=
  ∀ (s : State) (o : Oracle) (src ident flags : Byte) (body : Bytes) (h : Handle) (stays : Bool),
    s.life = .live → s.isrs = [] → s.edgeLatched = false → s.par.isrReentrant = true →
    s.mode = .rxContinuous → s.radio.flags.rxDone = true →
    s.radio.rxPkt = [s.thisAddress, src, ident, flags] ++ body → body.length ≤ 251 → flags.getLsbD 0 = false →
    s.cfg.acksEnabled = true → s.cfg.cadTimeout = 0 → s.receiveCallback = some h →
    s.script = isrMoves 19 0 o ++ .radio (.txDone stays) :: (isrMoves 4 1 o ++ isrMoves 5 0 o) →
    let p : ParsedPacket :=
      { message := inMessage s.cfg.codec body, headerTo := s.thisAddress, headerFrom := src, headerId := ident,
        headerFlags := flags, snr := (sigMetrics s s.radio.snrRaw s.radio.rssiRaw).1,
        rssi := (sigMetrics s s.radio.snrRaw s.radio.rssiRaw).2 }
    ∃ t u, exec .irq s = .next t ∧ runSteps 29 t = .next u ∧
      u.isrs = [] ∧ u.app = s.app ∧ u.mode = .rxContinuous ∧ u.radio.hwMode = .rxContinuous ∧
      u.radio.irqMap = some .rxDone ∧ u.lastReceivedPayload = some p ∧ u.lastHeaderId = s.lastHeaderId ∧
      u.cadDetected = s.cadDetected ∧ sameSession s u ∧ u.clock = s.clock ∧ u.edgeLatched = false ∧
      receiverKept s u ∧ u.radio.flags = ⟨false, false, false, false⟩ ∧
      u.obs.filter isOutput =
        s.obs.filter isOutput ++
          [.txStart ([src, s.thisAddress, ident, 0x01] ++ outBody s.cfg.codec [0x21]), .deliver h p]

/-! ## The radio -/

/-- R64, R65: the three steps of RADIO, each enabled in one radio mode only, whatever they leave open; the line
rises, and an edge goes to the block, exactly when the flag added is the one the line is mapped to and was
not set already. A move of RADIO that is not enabled changes nothing (log 12, DESIGN CHOICE). -/
def Obligations.RadioStepsAndTheLine : Prop :=
  ∀ s : State,
    (∀ stays, s.radio.hwMode = .tx →
      let u : State :=
        { s with
          radio :=
            { s.radio with
              flags := { s.radio.flags with txDone := true }
              hwMode := if stays then .tx else .standby } }
      radioStep (.txDone stays) s =
        if s.radio.irqMap = some .txDone ∧ s.radio.flags.txDone = false then takeEdge u else u) ∧
    (∀ b q r, s.radio.hwMode = .rxContinuous → b.length ≤ 255 →
      let u : State :=
        { s with
          radio :=
            { s.radio with
              rxPkt := b
              snrRaw := q
              rssiRaw := r
              flags := { s.radio.flags with rxDone := true } } }
      radioStep (.rxPacket b q r) s =
        if s.radio.irqMap = some .rxDone ∧ s.radio.flags.rxDone = false then takeEdge u else u) ∧
    (∀ det stays, s.radio.hwMode = .cad →
      let u : State :=
        { s with
          radio :=
            { s.radio with
              flags := { s.radio.flags with cadDone := true, cadDetected := s.radio.flags.cadDetected || det }
              hwMode := if stays then .cad else .standby } }
      radioStep (.cadDone det stays) s =
        if s.radio.irqMap = some .cadDone ∧ s.radio.flags.cadDone = false then takeEdge u else u) ∧
    (∀ stays, s.radio.hwMode ≠ .tx → radioStep (.txDone stays) s = s) ∧
    (∀ b q r, s.radio.hwMode ≠ .rxContinuous ∨ 255 < b.length → radioStep (.rxPacket b q r) s = s) ∧
    (∀ det stays, s.radio.hwMode ≠ .cad → radioStep (.cadDone det stays) s = s)

/-- R63: the step that writes TX carries TxStart of the bytes last written, cut to the length last written; a
SETTX request in mode TX writes nothing and is no attempt. -/
def Obligations.TxStartCarriesTheFrame : Prop :=
  ∀ s : State,
    (radioWriteMode .tx s).obs =
      s.obs ++ [.radio (.writeMode .tx), .txStart (s.radio.txBuf.take (min s.radio.txLen.toNat s.radio.txBuf.length))] ∧
    (∀ m, m ≠ .tx → (radioWriteMode m s).obs = s.obs ++ [.radio (.writeMode m)]) ∧
    (s.mode = .tx → setTx s = s)

/-- R52, R57: the flags read back from the register byte they are written as, whatever the bit positions; bits
that stand for no flag are ignored; distinct registers, modes and sources have distinct addresses and values. That they
are distinct is log 22, DESIGN CHOICE. -/
def Obligations.RadioConstantsAreDistinct : Prop :=
  (∀ f : FlagSet, flagSetOfByte (flagSetToByte f) = f) ∧
  (∀ b b' : Byte, (∀ k : Fin 8, k.val < 4 →
      b.getLsbD (Config.irqBitPerm k).val = b'.getLsbD (Config.irqBitPerm k).val) →
    flagSetOfByte b = flagSetOfByte b') ∧
  (∀ r r' : RadioReg, regAddr r = regAddr r' → r = r') ∧
  (∀ m m' : HwMode, modeVal m = modeVal m' → m = m') ∧
  (∀ x x' : IrqSource, irqMapVal x = irqMapVal x' → x = x')

/-! ## Invariants every step keeps -/

/-- The control state fits the instance's life: no operation runs where no instance is, construction runs INIT
alone, and no handler invocation runs a host command. -/
def Obligations.StepKeepsControlFitting : Prop :=
  ∀ s t : State, controlFits s → step s = .next t → controlFits t

/-- R22, R136, R231: after every step the radio is in the mode the block's record says, or has left TX or CAD
for STANDBY by itself, and the line is mapped to the source of the mode. Where no instance is the radio sleeps, which a
restart sets and from which the record is true of the radio after INIT: R263 item 3 asks it of the external
initialisation and calls it this spec's own requirement, which the source does not state, so this statement rests
on log 14 (DEDUCED, unsafe). -/
def Obligations.StepKeepsRadioTracked : Prop :=
  ∀ s t : State, controlFits s → radioTracks s → mappingFits s → step s = .next t → radioTracks t ∧ mappingFits t

/-- R33, R80, R86: after every step a received packet and a frame to send have at most 255 bytes and a stored
message has at most 251. -/
def Obligations.StepKeepsLengths : Prop :=
  ∀ s t : State, controlFits s → lengthsFit s → step s = .next t → lengthsFit t

/-- R36, R260: the state after reset has the values the spec gives it, is quiescent, and meets the invariants. That the radio is
asleep with no flag set is also what R263 items 3 and 4 require of the initialisation (log 14, DEDUCED). -/
def Obligations.ResetMeetsTheInvariants : Prop :=
  State.reset.life = .live ∧ State.reset.mode = .sleep ∧ State.reset.cadDetected = .unknown ∧
  State.reset.lastHeaderId = 0 ∧ State.reset.lastReceivedPayload = none ∧ State.reset.receiveCallback = none ∧
  State.reset.cfg.frequencyMHz = 915 ∧ State.reset.cfg.txPowerDbm = 14 ∧ State.reset.cfg.acksEnabled = false ∧
  State.reset.cfg.codec = none ∧ State.reset.cfg.waitPacketSentTimeout = 1 / 2 ∧ State.reset.cfg.cadTimeout = 1 ∧
  State.reset.radio.hwMode = .sleep ∧ State.reset.radio.flags = ⟨false, false, false, false⟩ ∧
  quiescent State.reset = true ∧ controlFits State.reset ∧ radioTracks State.reset ∧ mappingFits State.reset ∧
  lengthsFit State.reset

/-- R21, R24, R28: on a live instance that is not restarted no step changes the address or the configuration,
only ONRECEIVE changes the callback, and the id changes only by the increment of SEQ.NEXT: at step W1 of APP,
or by the operation itself. -/
def Obligations.AddressAndConfigurationAreFixed : Prop :=
  ∀ s t : State, controlFits s → s.life = .live → step s = .next t → t.life ≠ .absent →
    t.thisAddress = s.thisAddress ∧ t.cfg = s.cfg ∧ t.par = s.par ∧
    (t.receiveCallback = s.receiveCallback ∨
      ∃ ch o bytes rest h, s.script = .present ch o bytes :: rest ∧ decode ch bytes = .ok (.onReceive h) ∧
        t.receiveCallback = some h) ∧
    (t.lastHeaderId = s.lastHeaderId ∨
      t.lastHeaderId = s.lastHeaderId + 1 ∧
        ((∃ o rest a k r st, s.script = .app o :: rest ∧ s.app = .busy (.sendToWait .w1 a k r :: st)) ∨
          ∃ ch o bytes rest, s.script = .present ch o bytes :: rest ∧ decode ch bytes = .ok .seqNext))

/-- R23, R25, R240: on a live instance that is not restarted only a handler invocation writes the record, at H2h,
whole, and the CAD verdict, at H4a; so a record is never cleared and UNKNOWN never comes back. And a handler's
step changes neither the address, the configuration, the callback, the id nor APP. -/
def Obligations.RecordAndVerdictAreTheHandlers : Prop :=
  ∀ s t : State, controlFits s → s.life = .live → step s = .next t → t.life ≠ .absent →
    (t.lastReceivedPayload = s.lastReceivedPayload ∨
      ∃ o rest k x st, s.script = .isr k o :: rest ∧ s.isrs[k]? = some (.irq .h2h x :: st) ∧
        t.lastReceivedPayload = some (packetOf x)) ∧
    (t.cadDetected = s.cadDetected ∨
      ∃ o rest k x st, s.script = .isr k o :: rest ∧ s.isrs[k]? = some (.irq .h4a x :: st) ∧
        t.cadDetected = (if x.f.cadDetected then .detected else .clear)) ∧
    (s.lastReceivedPayload ≠ none → t.lastReceivedPayload ≠ none) ∧
    (s.cadDetected ≠ .unknown → t.cadDetected ≠ .unknown) ∧
    (∀ o rest k, s.script = .isr k o :: rest →
      sameSession s t ∧ t.lastHeaderId = s.lastHeaderId ∧ t.app = s.app)
end

