-- ==== Sys2Proof/Laws/Decode.lean ====
section
/-! SUPPORT. What each operand reader does with what its encoder wrote, and the shape of what it accepts. -/

namespace Sys2Proof

@[simp] theorem readThen_ok {α β : Type} (a : α) (bs : Bytes) (k : α → Bytes → Read β) :
    readThen (.ok (a, bs)) k = k a bs := rfl

@[simp] theorem readThen_error {α β : Type} (e : Reject) (k : α → Bytes → Read β) :
    readThen (.error e) k = .error e := rfl

theorem readThen_eq_ok {α β : Type} {r : Read α} {k : α → Bytes → Read β} {b : β} {rest : Bytes}
    (h : readThen r k = .ok (b, rest)) : ∃ a bs, r = .ok (a, bs) ∧ k a bs = .ok (b, rest) := by
  cases r with
  | ok p => exact ⟨p.1, p.2, rfl, h⟩
  | error e => cases h

@[simp] theorem readByte_cons (b : Byte) (bs : Bytes) : readByte (b :: bs) = .ok (b, bs) := rfl

theorem readByte_eq_ok {bs rest : Bytes} {b : Byte} (h : readByte bs = .ok (b, rest)) : bs = b :: rest := by
  cases bs with
  | nil => cases h
  | cons c cs => cases h; rfl

/-! ## Naturals -/

theorem readNat_natDigits (fuel n : Nat) (hf : n ≤ fuel) (rest : Bytes) :
    readNat (natDigits fuel n ++ rest) = .ok (n, rest) := by
  induction fuel generalizing n with
  | zero =>
    obtain rfl : n = 0 := by omega
    simp [natDigits, readNat]
  | succ fuel ih =>
    unfold natDigits
    split
    · rename_i h
      have : n % 256 = n := by omega
      simp [readNat, BitVec.toNat_ofNat, this, h]
    · rename_i h
      have h1 : (n % 128 + 128) % 256 = n % 128 + 128 := by omega
      have h2 : ¬ n % 128 + 128 < 128 := by omega
      have h3 : n / 128 ≠ 0 := by omega
      have h4 : n % 128 + 128 * (n / 128) = n := Nat.mod_add_div n 128
      simp only [List.cons_append, readNat, BitVec.toNat_ofNat]
      rw [show (2 : Nat) ^ 8 = 256 from rfl, h1, if_neg h2, ih (n / 128) (by omega)]
      simp [h3, h4]

/-- A natural reads back as it was written. -/
theorem readNat_encodeNat (n : Nat) (rest : Bytes) : readNat (encodeNat n ++ rest) = .ok (n, rest) :=
  readNat_natDigits n n (Nat.le_refl n) rest

theorem natDigits_fuel (fuel n : Nat) (h : n ≤ fuel) : natDigits fuel n = natDigits n n := by
  induction fuel using Nat.strong_induction_on generalizing n with
  | _ fuel ih =>
    match fuel, n with
    | 0, 0 => rfl
    | 0, n + 1 => omega
    | fuel + 1, 0 => rfl
    | fuel + 1, n + 1 =>
      unfold natDigits
      split
      · rfl
      · rw [ih fuel (by omega) _ (by omega)]
        congr 1
        by_cases hn : n = fuel
        · rw [hn]; exact (ih fuel (by omega) _ (by omega)).symm
        · exact (ih n (by omega) _ (by omega)).symm

/-- What reads as a natural is what its encoder writes. -/
theorem readNat_eq_ok {bs rest : Bytes} {n : Nat} (h : readNat bs = .ok (n, rest)) : bs = encodeNat n ++ rest := by
  induction bs generalizing n with
  | nil => cases h
  | cons b bs ih =>
    unfold readNat at h
    have hb : b.toNat < 256 := b.isLt
    split at h
    · rename_i hlt
      cases h
      have e : BitVec.ofNat 8 b.toNat = b := BitVec.ofNat_toNat .. |>.trans (by simp)
      unfold encodeNat
      cases hk : b.toNat with
      | zero => rw [hk] at e; simp [natDigits, e]
      | succ k => rw [hk] at e hlt; simp [natDigits, hlt, e]
    · rename_i hge
      split at h
      · cases h
      · rename_i m r hm
        split at h
        · cases h
        · rename_i hm0
          cases h
          rw [ih hm]
          have hpos : 0 < b.toNat - 128 + 128 * m := by omega
          unfold encodeNat
          obtain ⟨k, hk⟩ : ∃ k, b.toNat - 128 + 128 * m = k + 1 := ⟨_, (Nat.succ_pred_eq_of_pos hpos).symm⟩
          rw [hk]
          have h1 : ¬ k + 1 < 128 := by omega
          have h2 : (k + 1) / 128 = m := by omega
          have h3 : (k + 1) % 128 + 128 = b.toNat := by omega
          have e : BitVec.ofNat 8 b.toNat = b := BitVec.ofNat_toNat .. |>.trans (by simp)
          rw [show natDigits (k + 1) (k + 1) = BitVec.ofNat 8 ((k + 1) % 128 + 128) :: natDigits k ((k + 1) / 128) by
            rw [natDigits, if_neg h1]]
          rw [h2, h3, e, natDigits_fuel k m (by omega)]
          rfl

/-! ## The other operands -/

theorem readBool_encodeBool (b : Bool) (rest : Bytes) : readBool (encodeBool b ++ rest) = .ok (b, rest) := by
  cases b <;> rfl

theorem readBool_eq_ok {bs rest : Bytes} {b : Bool} (h : readBool bs = .ok (b, rest)) : bs = encodeBool b ++ rest := by
  cases bs with
  | nil => cases h
  | cons c cs =>
    simp only [readBool] at h
    by_cases h0 : c = 0
    · rw [if_pos h0] at h; cases h; rw [h0]; rfl
    · rw [if_neg h0] at h
      by_cases h1 : c = 1
      · rw [if_pos h1] at h; cases h; rw [h1]; rfl
      · rw [if_neg h1] at h; cases h

theorem readExactly_append (bs rest : Bytes) : readExactly bs.length (bs ++ rest) = .ok (bs, rest) := by
  simp [readExactly]

theorem readExactly_eq_ok {n : Nat} {bs got rest : Bytes} (h : readExactly n bs = .ok (got, rest)) :
    bs = got ++ rest ∧ got.length = n := by
  unfold readExactly at h
  split at h
  · cases h; simp [*]
  · cases h

theorem readBytes_encodeBytes (bs rest : Bytes) : readBytes (encodeBytes bs ++ rest) = .ok (bs, rest) := by
  simp [readBytes, encodeBytes, readNat_encodeNat, readExactly_append]

theorem readBytes_eq_ok {bs got rest : Bytes} (h : readBytes bs = .ok (got, rest)) : bs = encodeBytes got ++ rest := by
  obtain ⟨n, bs', h1, h2⟩ := readThen_eq_ok h
  obtain ⟨rfl, rfl⟩ := readExactly_eq_ok h2
  rw [readNat_eq_ok h1]; simp [encodeBytes]

theorem readInt_encodeInt (z : Int) (rest : Bytes) : readInt (encodeInt z ++ rest) = .ok (z, rest) := by
  cases z <;> simp [readInt, encodeInt, readNat_encodeNat]

theorem readInt_eq_ok {bs rest : Bytes} {z : Int} (h : readInt bs = .ok (z, rest)) : bs = encodeInt z ++ rest := by
  obtain ⟨sgn, bs1, h1, h2⟩ := readThen_eq_ok h
  obtain ⟨n, bs2, h3, h4⟩ := readThen_eq_ok h2
  rw [readByte_eq_ok h1, readNat_eq_ok h3]
  split at h4
  · rename_i e; cases h4; rw [e]; rfl
  · split at h4
    · rename_i e; cases h4; rw [e]; rfl
    · cases h4

theorem readRat_encodeRat (q : Rat) (h : 0 ≤ q.num) (rest : Bytes) : readRat (encodeRat q ++ rest) = .ok (q, rest) := by
  obtain ⟨num, den, hd, hr⟩ := q
  obtain ⟨n, rfl⟩ := Int.eq_ofNat_of_zero_le h
  obtain ⟨d, rfl⟩ := Nat.exists_eq_succ_of_ne_zero hd
  have hc : Nat.Coprime n (d + 1) := by simpa using hr
  simp only [readRat, encodeRat, Int.toNat_natCast, Nat.succ_eq_add_one, Nat.add_sub_cancel, List.append_assoc,
    readNat_encodeNat, readThen_ok]
  exact dif_pos hc

theorem readRat_eq_ok {bs rest : Bytes} {q : Rat} (h : readRat bs = .ok (q, rest)) :
    bs = encodeRat q ++ rest ∧ 0 ≤ q.num := by
  obtain ⟨num, bs1, h1, h2⟩ := readThen_eq_ok h
  obtain ⟨den, bs2, h3, h4⟩ := readThen_eq_ok h2
  split at h4
  · cases h4
    rw [readNat_eq_ok h1, readNat_eq_ok h3]
    simp [encodeRat]
  · cases h4

theorem readOptHandle_encodeOptHandle (o : Option Handle) (rest : Bytes) :
    readOptHandle (encodeOptHandle o ++ rest) = .ok (o, rest) := by
  cases o <;> simp [readOptHandle, encodeOptHandle, readNat_encodeNat]

theorem readOptHandle_eq_ok {bs rest : Bytes} {o : Option Handle} (h : readOptHandle bs = .ok (o, rest)) :
    bs = encodeOptHandle o ++ rest := by
  obtain ⟨n, bs1, h1, h2⟩ := readThen_eq_ok h
  rw [readNat_eq_ok h1]
  cases n <;> · cases h2; rfl

/-! ## The flag byte of a frame (R84) -/

theorem flagByte_ack (r : BitVec 7) (a : Bool) : (flagByte r a).getLsbD 0 = a := by
  revert r; cases a <;> decide

theorem flagByte_reserved (r : BitVec 7) (a : Bool) : (flagByte r a).extractLsb' 1 7 = r := by
  revert r; cases a <;> decide

theorem flagByte_of_bits (f : Byte) : flagByte (f.extractLsb' 1 7) (f.getLsbD 0) = f := by
  revert f; decide

end Sys2Proof
end

