-- ==== Sys2Proof/Laws/State.lean ====
section
/-! SUPPORT. One lemma per field per named update of State, so that no proof unfolds a record update. -/

namespace Sys2Proof.Machine

/-! ### emit -/

@[simp] theorem State.emit_par (s : State) (l : Label) : (s.emit l).par = s.par := rfl
@[simp] theorem State.emit_life (s : State) (l : Label) : (s.emit l).life = s.life := rfl
@[simp] theorem State.emit_hwInitOk (s : State) (l : Label) : (s.emit l).hwInitOk = s.hwInitOk := rfl
@[simp] theorem State.emit_thisAddress (s : State) (l : Label) : (s.emit l).thisAddress = s.thisAddress := rfl
@[simp] theorem State.emit_mode (s : State) (l : Label) : (s.emit l).mode = s.mode := rfl
@[simp] theorem State.emit_cadDetected (s : State) (l : Label) : (s.emit l).cadDetected = s.cadDetected := rfl
@[simp] theorem State.emit_lastHeaderId (s : State) (l : Label) : (s.emit l).lastHeaderId = s.lastHeaderId := rfl
@[simp] theorem State.emit_lastReceivedPayload (s : State) (l : Label) : (s.emit l).lastReceivedPayload = s.lastReceivedPayload := rfl
@[simp] theorem State.emit_receiveCallback (s : State) (l : Label) : (s.emit l).receiveCallback = s.receiveCallback := rfl
@[simp] theorem State.emit_cfg (s : State) (l : Label) : (s.emit l).cfg = s.cfg := rfl
@[simp] theorem State.emit_app (s : State) (l : Label) : (s.emit l).app = s.app := rfl
@[simp] theorem State.emit_isrs (s : State) (l : Label) : (s.emit l).isrs = s.isrs := rfl
@[simp] theorem State.emit_edgeLatched (s : State) (l : Label) : (s.emit l).edgeLatched = s.edgeLatched := rfl
@[simp] theorem State.emit_radio (s : State) (l : Label) : (s.emit l).radio = s.radio := rfl
@[simp] theorem State.emit_clock (s : State) (l : Label) : (s.emit l).clock = s.clock := rfl
@[simp] theorem State.emit_oracle (s : State) (l : Label) : (s.emit l).oracle = s.oracle := rfl
@[simp] theorem State.emit_script (s : State) (l : Label) : (s.emit l).script = s.script := rfl
@[simp] theorem State.emit_obs (s : State) (l : Label) : (s.emit l).obs = s.obs ++ [l] := rfl

/-! ### setMode -/

@[simp] theorem State.setMode_par (s : State) (m : Mode) : (s.setMode m).par = s.par := rfl
@[simp] theorem State.setMode_life (s : State) (m : Mode) : (s.setMode m).life = s.life := rfl
@[simp] theorem State.setMode_hwInitOk (s : State) (m : Mode) : (s.setMode m).hwInitOk = s.hwInitOk := rfl
@[simp] theorem State.setMode_thisAddress (s : State) (m : Mode) : (s.setMode m).thisAddress = s.thisAddress := rfl
@[simp] theorem State.setMode_mode (s : State) (m : Mode) : (s.setMode m).mode = m := rfl
@[simp] theorem State.setMode_cadDetected (s : State) (m : Mode) : (s.setMode m).cadDetected = s.cadDetected := rfl
@[simp] theorem State.setMode_lastHeaderId (s : State) (m : Mode) : (s.setMode m).lastHeaderId = s.lastHeaderId := rfl
@[simp] theorem State.setMode_lastReceivedPayload (s : State) (m : Mode) : (s.setMode m).lastReceivedPayload = s.lastReceivedPayload := rfl
@[simp] theorem State.setMode_receiveCallback (s : State) (m : Mode) : (s.setMode m).receiveCallback = s.receiveCallback := rfl
@[simp] theorem State.setMode_cfg (s : State) (m : Mode) : (s.setMode m).cfg = s.cfg := rfl
@[simp] theorem State.setMode_app (s : State) (m : Mode) : (s.setMode m).app = s.app := rfl
@[simp] theorem State.setMode_isrs (s : State) (m : Mode) : (s.setMode m).isrs = s.isrs := rfl
@[simp] theorem State.setMode_edgeLatched (s : State) (m : Mode) : (s.setMode m).edgeLatched = s.edgeLatched := rfl
@[simp] theorem State.setMode_radio (s : State) (m : Mode) : (s.setMode m).radio = s.radio := rfl
@[simp] theorem State.setMode_clock (s : State) (m : Mode) : (s.setMode m).clock = s.clock := rfl
@[simp] theorem State.setMode_oracle (s : State) (m : Mode) : (s.setMode m).oracle = s.oracle := rfl
@[simp] theorem State.setMode_script (s : State) (m : Mode) : (s.setMode m).script = s.script := rfl
@[simp] theorem State.setMode_obs (s : State) (m : Mode) : (s.setMode m).obs = s.obs := rfl

/-! ### setCad -/

@[simp] theorem State.setCad_par (s : State) (c : CadFlag) : (s.setCad c).par = s.par := rfl
@[simp] theorem State.setCad_life (s : State) (c : CadFlag) : (s.setCad c).life = s.life := rfl
@[simp] theorem State.setCad_hwInitOk (s : State) (c : CadFlag) : (s.setCad c).hwInitOk = s.hwInitOk := rfl
@[simp] theorem State.setCad_thisAddress (s : State) (c : CadFlag) : (s.setCad c).thisAddress = s.thisAddress := rfl
@[simp] theorem State.setCad_mode (s : State) (c : CadFlag) : (s.setCad c).mode = s.mode := rfl
@[simp] theorem State.setCad_cadDetected (s : State) (c : CadFlag) : (s.setCad c).cadDetected = c := rfl
@[simp] theorem State.setCad_lastHeaderId (s : State) (c : CadFlag) : (s.setCad c).lastHeaderId = s.lastHeaderId := rfl
@[simp] theorem State.setCad_lastReceivedPayload (s : State) (c : CadFlag) : (s.setCad c).lastReceivedPayload = s.lastReceivedPayload := rfl
@[simp] theorem State.setCad_receiveCallback (s : State) (c : CadFlag) : (s.setCad c).receiveCallback = s.receiveCallback := rfl
@[simp] theorem State.setCad_cfg (s : State) (c : CadFlag) : (s.setCad c).cfg = s.cfg := rfl
@[simp] theorem State.setCad_app (s : State) (c : CadFlag) : (s.setCad c).app = s.app := rfl
@[simp] theorem State.setCad_isrs (s : State) (c : CadFlag) : (s.setCad c).isrs = s.isrs := rfl
@[simp] theorem State.setCad_edgeLatched (s : State) (c : CadFlag) : (s.setCad c).edgeLatched = s.edgeLatched := rfl
@[simp] theorem State.setCad_radio (s : State) (c : CadFlag) : (s.setCad c).radio = s.radio := rfl
@[simp] theorem State.setCad_clock (s : State) (c : CadFlag) : (s.setCad c).clock = s.clock := rfl
@[simp] theorem State.setCad_oracle (s : State) (c : CadFlag) : (s.setCad c).oracle = s.oracle := rfl
@[simp] theorem State.setCad_script (s : State) (c : CadFlag) : (s.setCad c).script = s.script := rfl
@[simp] theorem State.setCad_obs (s : State) (c : CadFlag) : (s.setCad c).obs = s.obs := rfl

/-! ### setSeq -/

@[simp] theorem State.setSeq_par (s : State) (v : Byte) : (s.setSeq v).par = s.par := rfl
@[simp] theorem State.setSeq_life (s : State) (v : Byte) : (s.setSeq v).life = s.life := rfl
@[simp] theorem State.setSeq_hwInitOk (s : State) (v : Byte) : (s.setSeq v).hwInitOk = s.hwInitOk := rfl
@[simp] theorem State.setSeq_thisAddress (s : State) (v : Byte) : (s.setSeq v).thisAddress = s.thisAddress := rfl
@[simp] theorem State.setSeq_mode (s : State) (v : Byte) : (s.setSeq v).mode = s.mode := rfl
@[simp] theorem State.setSeq_cadDetected (s : State) (v : Byte) : (s.setSeq v).cadDetected = s.cadDetected := rfl
@[simp] theorem State.setSeq_lastHeaderId (s : State) (v : Byte) : (s.setSeq v).lastHeaderId = v := rfl
@[simp] theorem State.setSeq_lastReceivedPayload (s : State) (v : Byte) : (s.setSeq v).lastReceivedPayload = s.lastReceivedPayload := rfl
@[simp] theorem State.setSeq_receiveCallback (s : State) (v : Byte) : (s.setSeq v).receiveCallback = s.receiveCallback := rfl
@[simp] theorem State.setSeq_cfg (s : State) (v : Byte) : (s.setSeq v).cfg = s.cfg := rfl
@[simp] theorem State.setSeq_app (s : State) (v : Byte) : (s.setSeq v).app = s.app := rfl
@[simp] theorem State.setSeq_isrs (s : State) (v : Byte) : (s.setSeq v).isrs = s.isrs := rfl
@[simp] theorem State.setSeq_edgeLatched (s : State) (v : Byte) : (s.setSeq v).edgeLatched = s.edgeLatched := rfl
@[simp] theorem State.setSeq_radio (s : State) (v : Byte) : (s.setSeq v).radio = s.radio := rfl
@[simp] theorem State.setSeq_clock (s : State) (v : Byte) : (s.setSeq v).clock = s.clock := rfl
@[simp] theorem State.setSeq_oracle (s : State) (v : Byte) : (s.setSeq v).oracle = s.oracle := rfl
@[simp] theorem State.setSeq_script (s : State) (v : Byte) : (s.setSeq v).script = s.script := rfl
@[simp] theorem State.setSeq_obs (s : State) (v : Byte) : (s.setSeq v).obs = s.obs := rfl

/-! ### setRecord -/

@[simp] theorem State.setRecord_par (s : State) (p : ParsedPacket) : (s.setRecord p).par = s.par := rfl
@[simp] theorem State.setRecord_life (s : State) (p : ParsedPacket) : (s.setRecord p).life = s.life := rfl
@[simp] theorem State.setRecord_hwInitOk (s : State) (p : ParsedPacket) : (s.setRecord p).hwInitOk = s.hwInitOk := rfl
@[simp] theorem State.setRecord_thisAddress (s : State) (p : ParsedPacket) : (s.setRecord p).thisAddress = s.thisAddress := rfl
@[simp] theorem State.setRecord_mode (s : State) (p : ParsedPacket) : (s.setRecord p).mode = s.mode := rfl
@[simp] theorem State.setRecord_cadDetected (s : State) (p : ParsedPacket) : (s.setRecord p).cadDetected = s.cadDetected := rfl
@[simp] theorem State.setRecord_lastHeaderId (s : State) (p : ParsedPacket) : (s.setRecord p).lastHeaderId = s.lastHeaderId := rfl
@[simp] theorem State.setRecord_lastReceivedPayload (s : State) (p : ParsedPacket) : (s.setRecord p).lastReceivedPayload = some p := rfl
@[simp] theorem State.setRecord_receiveCallback (s : State) (p : ParsedPacket) : (s.setRecord p).receiveCallback = s.receiveCallback := rfl
@[simp] theorem State.setRecord_cfg (s : State) (p : ParsedPacket) : (s.setRecord p).cfg = s.cfg := rfl
@[simp] theorem State.setRecord_app (s : State) (p : ParsedPacket) : (s.setRecord p).app = s.app := rfl
@[simp] theorem State.setRecord_isrs (s : State) (p : ParsedPacket) : (s.setRecord p).isrs = s.isrs := rfl
@[simp] theorem State.setRecord_edgeLatched (s : State) (p : ParsedPacket) : (s.setRecord p).edgeLatched = s.edgeLatched := rfl
@[simp] theorem State.setRecord_radio (s : State) (p : ParsedPacket) : (s.setRecord p).radio = s.radio := rfl
@[simp] theorem State.setRecord_clock (s : State) (p : ParsedPacket) : (s.setRecord p).clock = s.clock := rfl
@[simp] theorem State.setRecord_oracle (s : State) (p : ParsedPacket) : (s.setRecord p).oracle = s.oracle := rfl
@[simp] theorem State.setRecord_script (s : State) (p : ParsedPacket) : (s.setRecord p).script = s.script := rfl
@[simp] theorem State.setRecord_obs (s : State) (p : ParsedPacket) : (s.setRecord p).obs = s.obs := rfl

/-! ### setCallback -/

@[simp] theorem State.setCallback_par (s : State) (h : Handle) : (s.setCallback h).par = s.par := rfl
@[simp] theorem State.setCallback_life (s : State) (h : Handle) : (s.setCallback h).life = s.life := rfl
@[simp] theorem State.setCallback_hwInitOk (s : State) (h : Handle) : (s.setCallback h).hwInitOk = s.hwInitOk := rfl
@[simp] theorem State.setCallback_thisAddress (s : State) (h : Handle) : (s.setCallback h).thisAddress = s.thisAddress := rfl
@[simp] theorem State.setCallback_mode (s : State) (h : Handle) : (s.setCallback h).mode = s.mode := rfl
@[simp] theorem State.setCallback_cadDetected (s : State) (h : Handle) : (s.setCallback h).cadDetected = s.cadDetected := rfl
@[simp] theorem State.setCallback_lastHeaderId (s : State) (h : Handle) : (s.setCallback h).lastHeaderId = s.lastHeaderId := rfl
@[simp] theorem State.setCallback_lastReceivedPayload (s : State) (h : Handle) : (s.setCallback h).lastReceivedPayload = s.lastReceivedPayload := rfl
@[simp] theorem State.setCallback_receiveCallback (s : State) (h : Handle) : (s.setCallback h).receiveCallback = some h := rfl
@[simp] theorem State.setCallback_cfg (s : State) (h : Handle) : (s.setCallback h).cfg = s.cfg := rfl
@[simp] theorem State.setCallback_app (s : State) (h : Handle) : (s.setCallback h).app = s.app := rfl
@[simp] theorem State.setCallback_isrs (s : State) (h : Handle) : (s.setCallback h).isrs = s.isrs := rfl
@[simp] theorem State.setCallback_edgeLatched (s : State) (h : Handle) : (s.setCallback h).edgeLatched = s.edgeLatched := rfl
@[simp] theorem State.setCallback_radio (s : State) (h : Handle) : (s.setCallback h).radio = s.radio := rfl
@[simp] theorem State.setCallback_clock (s : State) (h : Handle) : (s.setCallback h).clock = s.clock := rfl
@[simp] theorem State.setCallback_oracle (s : State) (h : Handle) : (s.setCallback h).oracle = s.oracle := rfl
@[simp] theorem State.setCallback_script (s : State) (h : Handle) : (s.setCallback h).script = s.script := rfl
@[simp] theorem State.setCallback_obs (s : State) (h : Handle) : (s.setCallback h).obs = s.obs := rfl

/-! ### setRadio -/

@[simp] theorem State.setRadio_par (s : State) (r : Radio) : (s.setRadio r).par = s.par := rfl
@[simp] theorem State.setRadio_life (s : State) (r : Radio) : (s.setRadio r).life = s.life := rfl
@[simp] theorem State.setRadio_hwInitOk (s : State) (r : Radio) : (s.setRadio r).hwInitOk = s.hwInitOk := rfl
@[simp] theorem State.setRadio_thisAddress (s : State) (r : Radio) : (s.setRadio r).thisAddress = s.thisAddress := rfl
@[simp] theorem State.setRadio_mode (s : State) (r : Radio) : (s.setRadio r).mode = s.mode := rfl
@[simp] theorem State.setRadio_cadDetected (s : State) (r : Radio) : (s.setRadio r).cadDetected = s.cadDetected := rfl
@[simp] theorem State.setRadio_lastHeaderId (s : State) (r : Radio) : (s.setRadio r).lastHeaderId = s.lastHeaderId := rfl
@[simp] theorem State.setRadio_lastReceivedPayload (s : State) (r : Radio) : (s.setRadio r).lastReceivedPayload = s.lastReceivedPayload := rfl
@[simp] theorem State.setRadio_receiveCallback (s : State) (r : Radio) : (s.setRadio r).receiveCallback = s.receiveCallback := rfl
@[simp] theorem State.setRadio_cfg (s : State) (r : Radio) : (s.setRadio r).cfg = s.cfg := rfl
@[simp] theorem State.setRadio_app (s : State) (r : Radio) : (s.setRadio r).app = s.app := rfl
@[simp] theorem State.setRadio_isrs (s : State) (r : Radio) : (s.setRadio r).isrs = s.isrs := rfl
@[simp] theorem State.setRadio_edgeLatched (s : State) (r : Radio) : (s.setRadio r).edgeLatched = s.edgeLatched := rfl
@[simp] theorem State.setRadio_radio (s : State) (r : Radio) : (s.setRadio r).radio = r := rfl
@[simp] theorem State.setRadio_clock (s : State) (r : Radio) : (s.setRadio r).clock = s.clock := rfl
@[simp] theorem State.setRadio_oracle (s : State) (r : Radio) : (s.setRadio r).oracle = s.oracle := rfl
@[simp] theorem State.setRadio_script (s : State) (r : Radio) : (s.setRadio r).script = s.script := rfl
@[simp] theorem State.setRadio_obs (s : State) (r : Radio) : (s.setRadio r).obs = s.obs := rfl

/-! ### setApp -/

@[simp] theorem State.setApp_par (s : State) (a : AppCtl) : (s.setApp a).par = s.par := rfl
@[simp] theorem State.setApp_life (s : State) (a : AppCtl) : (s.setApp a).life = s.life := rfl
@[simp] theorem State.setApp_hwInitOk (s : State) (a : AppCtl) : (s.setApp a).hwInitOk = s.hwInitOk := rfl
@[simp] theorem State.setApp_thisAddress (s : State) (a : AppCtl) : (s.setApp a).thisAddress = s.thisAddress := rfl
@[simp] theorem State.setApp_mode (s : State) (a : AppCtl) : (s.setApp a).mode = s.mode := rfl
@[simp] theorem State.setApp_cadDetected (s : State) (a : AppCtl) : (s.setApp a).cadDetected = s.cadDetected := rfl
@[simp] theorem State.setApp_lastHeaderId (s : State) (a : AppCtl) : (s.setApp a).lastHeaderId = s.lastHeaderId := rfl
@[simp] theorem State.setApp_lastReceivedPayload (s : State) (a : AppCtl) : (s.setApp a).lastReceivedPayload = s.lastReceivedPayload := rfl
@[simp] theorem State.setApp_receiveCallback (s : State) (a : AppCtl) : (s.setApp a).receiveCallback = s.receiveCallback := rfl
@[simp] theorem State.setApp_cfg (s : State) (a : AppCtl) : (s.setApp a).cfg = s.cfg := rfl
@[simp] theorem State.setApp_app (s : State) (a : AppCtl) : (s.setApp a).app = a := rfl
@[simp] theorem State.setApp_isrs (s : State) (a : AppCtl) : (s.setApp a).isrs = s.isrs := rfl
@[simp] theorem State.setApp_edgeLatched (s : State) (a : AppCtl) : (s.setApp a).edgeLatched = s.edgeLatched := rfl
@[simp] theorem State.setApp_radio (s : State) (a : AppCtl) : (s.setApp a).radio = s.radio := rfl
@[simp] theorem State.setApp_clock (s : State) (a : AppCtl) : (s.setApp a).clock = s.clock := rfl
@[simp] theorem State.setApp_oracle (s : State) (a : AppCtl) : (s.setApp a).oracle = s.oracle := rfl
@[simp] theorem State.setApp_script (s : State) (a : AppCtl) : (s.setApp a).script = s.script := rfl
@[simp] theorem State.setApp_obs (s : State) (a : AppCtl) : (s.setApp a).obs = s.obs := rfl

/-! ### setIsrs -/

@[simp] theorem State.setIsrs_par (s : State) (l : List Stack) : (s.setIsrs l).par = s.par := rfl
@[simp] theorem State.setIsrs_life (s : State) (l : List Stack) : (s.setIsrs l).life = s.life := rfl
@[simp] theorem State.setIsrs_hwInitOk (s : State) (l : List Stack) : (s.setIsrs l).hwInitOk = s.hwInitOk := rfl
@[simp] theorem State.setIsrs_thisAddress (s : State) (l : List Stack) : (s.setIsrs l).thisAddress = s.thisAddress := rfl
@[simp] theorem State.setIsrs_mode (s : State) (l : List Stack) : (s.setIsrs l).mode = s.mode := rfl
@[simp] theorem State.setIsrs_cadDetected (s : State) (l : List Stack) : (s.setIsrs l).cadDetected = s.cadDetected := rfl
@[simp] theorem State.setIsrs_lastHeaderId (s : State) (l : List Stack) : (s.setIsrs l).lastHeaderId = s.lastHeaderId := rfl
@[simp] theorem State.setIsrs_lastReceivedPayload (s : State) (l : List Stack) : (s.setIsrs l).lastReceivedPayload = s.lastReceivedPayload := rfl
@[simp] theorem State.setIsrs_receiveCallback (s : State) (l : List Stack) : (s.setIsrs l).receiveCallback = s.receiveCallback := rfl
@[simp] theorem State.setIsrs_cfg (s : State) (l : List Stack) : (s.setIsrs l).cfg = s.cfg := rfl
@[simp] theorem State.setIsrs_app (s : State) (l : List Stack) : (s.setIsrs l).app = s.app := rfl
@[simp] theorem State.setIsrs_isrs (s : State) (l : List Stack) : (s.setIsrs l).isrs = l := rfl
@[simp] theorem State.setIsrs_edgeLatched (s : State) (l : List Stack) : (s.setIsrs l).edgeLatched = s.edgeLatched := rfl
@[simp] theorem State.setIsrs_radio (s : State) (l : List Stack) : (s.setIsrs l).radio = s.radio := rfl
@[simp] theorem State.setIsrs_clock (s : State) (l : List Stack) : (s.setIsrs l).clock = s.clock := rfl
@[simp] theorem State.setIsrs_oracle (s : State) (l : List Stack) : (s.setIsrs l).oracle = s.oracle := rfl
@[simp] theorem State.setIsrs_script (s : State) (l : List Stack) : (s.setIsrs l).script = s.script := rfl
@[simp] theorem State.setIsrs_obs (s : State) (l : List Stack) : (s.setIsrs l).obs = s.obs := rfl

/-! ### setLatched -/

@[simp] theorem State.setLatched_par (s : State) (b : Bool) : (s.setLatched b).par = s.par := rfl
@[simp] theorem State.setLatched_life (s : State) (b : Bool) : (s.setLatched b).life = s.life := rfl
@[simp] theorem State.setLatched_hwInitOk (s : State) (b : Bool) : (s.setLatched b).hwInitOk = s.hwInitOk := rfl
@[simp] theorem State.setLatched_thisAddress (s : State) (b : Bool) : (s.setLatched b).thisAddress = s.thisAddress := rfl
@[simp] theorem State.setLatched_mode (s : State) (b : Bool) : (s.setLatched b).mode = s.mode := rfl
@[simp] theorem State.setLatched_cadDetected (s : State) (b : Bool) : (s.setLatched b).cadDetected = s.cadDetected := rfl
@[simp] theorem State.setLatched_lastHeaderId (s : State) (b : Bool) : (s.setLatched b).lastHeaderId = s.lastHeaderId := rfl
@[simp] theorem State.setLatched_lastReceivedPayload (s : State) (b : Bool) : (s.setLatched b).lastReceivedPayload = s.lastReceivedPayload := rfl
@[simp] theorem State.setLatched_receiveCallback (s : State) (b : Bool) : (s.setLatched b).receiveCallback = s.receiveCallback := rfl
@[simp] theorem State.setLatched_cfg (s : State) (b : Bool) : (s.setLatched b).cfg = s.cfg := rfl
@[simp] theorem State.setLatched_app (s : State) (b : Bool) : (s.setLatched b).app = s.app := rfl
@[simp] theorem State.setLatched_isrs (s : State) (b : Bool) : (s.setLatched b).isrs = s.isrs := rfl
@[simp] theorem State.setLatched_edgeLatched (s : State) (b : Bool) : (s.setLatched b).edgeLatched = b := rfl
@[simp] theorem State.setLatched_radio (s : State) (b : Bool) : (s.setLatched b).radio = s.radio := rfl
@[simp] theorem State.setLatched_clock (s : State) (b : Bool) : (s.setLatched b).clock = s.clock := rfl
@[simp] theorem State.setLatched_oracle (s : State) (b : Bool) : (s.setLatched b).oracle = s.oracle := rfl
@[simp] theorem State.setLatched_script (s : State) (b : Bool) : (s.setLatched b).script = s.script := rfl
@[simp] theorem State.setLatched_obs (s : State) (b : Bool) : (s.setLatched b).obs = s.obs := rfl

/-! ### setLife -/

@[simp] theorem State.setLife_par (s : State) (l : Life) : (s.setLife l).par = s.par := rfl
@[simp] theorem State.setLife_life (s : State) (l : Life) : (s.setLife l).life = l := rfl
@[simp] theorem State.setLife_hwInitOk (s : State) (l : Life) : (s.setLife l).hwInitOk = s.hwInitOk := rfl
@[simp] theorem State.setLife_thisAddress (s : State) (l : Life) : (s.setLife l).thisAddress = s.thisAddress := rfl
@[simp] theorem State.setLife_mode (s : State) (l : Life) : (s.setLife l).mode = s.mode := rfl
@[simp] theorem State.setLife_cadDetected (s : State) (l : Life) : (s.setLife l).cadDetected = s.cadDetected := rfl
@[simp] theorem State.setLife_lastHeaderId (s : State) (l : Life) : (s.setLife l).lastHeaderId = s.lastHeaderId := rfl
@[simp] theorem State.setLife_lastReceivedPayload (s : State) (l : Life) : (s.setLife l).lastReceivedPayload = s.lastReceivedPayload := rfl
@[simp] theorem State.setLife_receiveCallback (s : State) (l : Life) : (s.setLife l).receiveCallback = s.receiveCallback := rfl
@[simp] theorem State.setLife_cfg (s : State) (l : Life) : (s.setLife l).cfg = s.cfg := rfl
@[simp] theorem State.setLife_app (s : State) (l : Life) : (s.setLife l).app = s.app := rfl
@[simp] theorem State.setLife_isrs (s : State) (l : Life) : (s.setLife l).isrs = s.isrs := rfl
@[simp] theorem State.setLife_edgeLatched (s : State) (l : Life) : (s.setLife l).edgeLatched = s.edgeLatched := rfl
@[simp] theorem State.setLife_radio (s : State) (l : Life) : (s.setLife l).radio = s.radio := rfl
@[simp] theorem State.setLife_clock (s : State) (l : Life) : (s.setLife l).clock = s.clock := rfl
@[simp] theorem State.setLife_oracle (s : State) (l : Life) : (s.setLife l).oracle = s.oracle := rfl
@[simp] theorem State.setLife_script (s : State) (l : Life) : (s.setLife l).script = s.script := rfl
@[simp] theorem State.setLife_obs (s : State) (l : Life) : (s.setLife l).obs = s.obs := rfl

/-! ### setClock -/

@[simp] theorem State.setClock_par (s : State) (t : Time) : (s.setClock t).par = s.par := rfl
@[simp] theorem State.setClock_life (s : State) (t : Time) : (s.setClock t).life = s.life := rfl
@[simp] theorem State.setClock_hwInitOk (s : State) (t : Time) : (s.setClock t).hwInitOk = s.hwInitOk := rfl
@[simp] theorem State.setClock_thisAddress (s : State) (t : Time) : (s.setClock t).thisAddress = s.thisAddress := rfl
@[simp] theorem State.setClock_mode (s : State) (t : Time) : (s.setClock t).mode = s.mode := rfl
@[simp] theorem State.setClock_cadDetected (s : State) (t : Time) : (s.setClock t).cadDetected = s.cadDetected := rfl
@[simp] theorem State.setClock_lastHeaderId (s : State) (t : Time) : (s.setClock t).lastHeaderId = s.lastHeaderId := rfl
@[simp] theorem State.setClock_lastReceivedPayload (s : State) (t : Time) : (s.setClock t).lastReceivedPayload = s.lastReceivedPayload := rfl
@[simp] theorem State.setClock_receiveCallback (s : State) (t : Time) : (s.setClock t).receiveCallback = s.receiveCallback := rfl
@[simp] theorem State.setClock_cfg (s : State) (t : Time) : (s.setClock t).cfg = s.cfg := rfl
@[simp] theorem State.setClock_app (s : State) (t : Time) : (s.setClock t).app = s.app := rfl
@[simp] theorem State.setClock_isrs (s : State) (t : Time) : (s.setClock t).isrs = s.isrs := rfl
@[simp] theorem State.setClock_edgeLatched (s : State) (t : Time) : (s.setClock t).edgeLatched = s.edgeLatched := rfl
@[simp] theorem State.setClock_radio (s : State) (t : Time) : (s.setClock t).radio = s.radio := rfl
@[simp] theorem State.setClock_clock (s : State) (t : Time) : (s.setClock t).clock = t := rfl
@[simp] theorem State.setClock_oracle (s : State) (t : Time) : (s.setClock t).oracle = s.oracle := rfl
@[simp] theorem State.setClock_script (s : State) (t : Time) : (s.setClock t).script = s.script := rfl
@[simp] theorem State.setClock_obs (s : State) (t : Time) : (s.setClock t).obs = s.obs := rfl

/-! ### setScript -/

@[simp] theorem State.setScript_par (s : State) (l : List Move) : (s.setScript l).par = s.par := rfl
@[simp] theorem State.setScript_life (s : State) (l : List Move) : (s.setScript l).life = s.life := rfl
@[simp] theorem State.setScript_hwInitOk (s : State) (l : List Move) : (s.setScript l).hwInitOk = s.hwInitOk := rfl
@[simp] theorem State.setScript_thisAddress (s : State) (l : List Move) : (s.setScript l).thisAddress = s.thisAddress := rfl
@[simp] theorem State.setScript_mode (s : State) (l : List Move) : (s.setScript l).mode = s.mode := rfl
@[simp] theorem State.setScript_cadDetected (s : State) (l : List Move) : (s.setScript l).cadDetected = s.cadDetected := rfl
@[simp] theorem State.setScript_lastHeaderId (s : State) (l : List Move) : (s.setScript l).lastHeaderId = s.lastHeaderId := rfl
@[simp] theorem State.setScript_lastReceivedPayload (s : State) (l : List Move) : (s.setScript l).lastReceivedPayload = s.lastReceivedPayload := rfl
@[simp] theorem State.setScript_receiveCallback (s : State) (l : List Move) : (s.setScript l).receiveCallback = s.receiveCallback := rfl
@[simp] theorem State.setScript_cfg (s : State) (l : List Move) : (s.setScript l).cfg = s.cfg := rfl
@[simp] theorem State.setScript_app (s : State) (l : List Move) : (s.setScript l).app = s.app := rfl
@[simp] theorem State.setScript_isrs (s : State) (l : List Move) : (s.setScript l).isrs = s.isrs := rfl
@[simp] theorem State.setScript_edgeLatched (s : State) (l : List Move) : (s.setScript l).edgeLatched = s.edgeLatched := rfl
@[simp] theorem State.setScript_radio (s : State) (l : List Move) : (s.setScript l).radio = s.radio := rfl
@[simp] theorem State.setScript_clock (s : State) (l : List Move) : (s.setScript l).clock = s.clock := rfl
@[simp] theorem State.setScript_oracle (s : State) (l : List Move) : (s.setScript l).oracle = s.oracle := rfl
@[simp] theorem State.setScript_script (s : State) (l : List Move) : (s.setScript l).script = l := rfl
@[simp] theorem State.setScript_obs (s : State) (l : List Move) : (s.setScript l).obs = s.obs := rfl

/-! ### setOracle -/

@[simp] theorem State.setOracle_par (s : State) (o : Oracle) : (s.setOracle o).par = s.par := rfl
@[simp] theorem State.setOracle_life (s : State) (o : Oracle) : (s.setOracle o).life = s.life := rfl
@[simp] theorem State.setOracle_hwInitOk (s : State) (o : Oracle) : (s.setOracle o).hwInitOk = s.hwInitOk := rfl
@[simp] theorem State.setOracle_thisAddress (s : State) (o : Oracle) : (s.setOracle o).thisAddress = s.thisAddress := rfl
@[simp] theorem State.setOracle_mode (s : State) (o : Oracle) : (s.setOracle o).mode = s.mode := rfl
@[simp] theorem State.setOracle_cadDetected (s : State) (o : Oracle) : (s.setOracle o).cadDetected = s.cadDetected := rfl
@[simp] theorem State.setOracle_lastHeaderId (s : State) (o : Oracle) : (s.setOracle o).lastHeaderId = s.lastHeaderId := rfl
@[simp] theorem State.setOracle_lastReceivedPayload (s : State) (o : Oracle) : (s.setOracle o).lastReceivedPayload = s.lastReceivedPayload := rfl
@[simp] theorem State.setOracle_receiveCallback (s : State) (o : Oracle) : (s.setOracle o).receiveCallback = s.receiveCallback := rfl
@[simp] theorem State.setOracle_cfg (s : State) (o : Oracle) : (s.setOracle o).cfg = s.cfg := rfl
@[simp] theorem State.setOracle_app (s : State) (o : Oracle) : (s.setOracle o).app = s.app := rfl
@[simp] theorem State.setOracle_isrs (s : State) (o : Oracle) : (s.setOracle o).isrs = s.isrs := rfl
@[simp] theorem State.setOracle_edgeLatched (s : State) (o : Oracle) : (s.setOracle o).edgeLatched = s.edgeLatched := rfl
@[simp] theorem State.setOracle_radio (s : State) (o : Oracle) : (s.setOracle o).radio = s.radio := rfl
@[simp] theorem State.setOracle_clock (s : State) (o : Oracle) : (s.setOracle o).clock = s.clock := rfl
@[simp] theorem State.setOracle_oracle (s : State) (o : Oracle) : (s.setOracle o).oracle = o := rfl
@[simp] theorem State.setOracle_script (s : State) (o : Oracle) : (s.setOracle o).script = s.script := rfl
@[simp] theorem State.setOracle_obs (s : State) (o : Oracle) : (s.setOracle o).obs = s.obs := rfl

end Sys2Proof.Machine
end

