-- ==== Sys2Proof/Laws/Ops.lean ====
section
/-! SUPPORT. The frame of each shared operation, field by field: what it leaves unchanged. -/

namespace Sys2Proof.Machine

/-! ### takeEdge changes isrs, edgeLatched only -/

@[simp] theorem takeEdge_par (s : State) : (takeEdge s).par = s.par := by unfold takeEdge; split <;> (try split) <;> rfl
@[simp] theorem takeEdge_life (s : State) : (takeEdge s).life = s.life := by unfold takeEdge; split <;> (try split) <;> rfl
@[simp] theorem takeEdge_hwInitOk (s : State) : (takeEdge s).hwInitOk = s.hwInitOk := by unfold takeEdge; split <;> (try split) <;> rfl
@[simp] theorem takeEdge_thisAddress (s : State) : (takeEdge s).thisAddress = s.thisAddress := by unfold takeEdge; split <;> (try split) <;> rfl
@[simp] theorem takeEdge_mode (s : State) : (takeEdge s).mode = s.mode := by unfold takeEdge; split <;> (try split) <;> rfl
@[simp] theorem takeEdge_cadDetected (s : State) : (takeEdge s).cadDetected = s.cadDetected := by unfold takeEdge; split <;> (try split) <;> rfl
@[simp] theorem takeEdge_lastHeaderId (s : State) : (takeEdge s).lastHeaderId = s.lastHeaderId := by unfold takeEdge; split <;> (try split) <;> rfl
@[simp] theorem takeEdge_lastReceivedPayload (s : State) : (takeEdge s).lastReceivedPayload = s.lastReceivedPayload := by unfold takeEdge; split <;> (try split) <;> rfl
@[simp] theorem takeEdge_receiveCallback (s : State) : (takeEdge s).receiveCallback = s.receiveCallback := by unfold takeEdge; split <;> (try split) <;> rfl
@[simp] theorem takeEdge_cfg (s : State) : (takeEdge s).cfg = s.cfg := by unfold takeEdge; split <;> (try split) <;> rfl
@[simp] theorem takeEdge_app (s : State) : (takeEdge s).app = s.app := by unfold takeEdge; split <;> (try split) <;> rfl
@[simp] theorem takeEdge_radio (s : State) : (takeEdge s).radio = s.radio := by unfold takeEdge; split <;> (try split) <;> rfl
@[simp] theorem takeEdge_clock (s : State) : (takeEdge s).clock = s.clock := by unfold takeEdge; split <;> (try split) <;> rfl
@[simp] theorem takeEdge_oracle (s : State) : (takeEdge s).oracle = s.oracle := by unfold takeEdge; split <;> (try split) <;> rfl
@[simp] theorem takeEdge_script (s : State) : (takeEdge s).script = s.script := by unfold takeEdge; split <;> (try split) <;> rfl
@[simp] theorem takeEdge_obs (s : State) : (takeEdge s).obs = s.obs := by unfold takeEdge; split <;> (try split) <;> rfl

/-! ### returnFromIrq changes isrs, edgeLatched only -/

@[simp] theorem returnFromIrq_par (k : Nat) (s : State) : (returnFromIrq k s).par = s.par := by simp only [returnFromIrq]; split <;> rfl
@[simp] theorem returnFromIrq_life (k : Nat) (s : State) : (returnFromIrq k s).life = s.life := by simp only [returnFromIrq]; split <;> rfl
@[simp] theorem returnFromIrq_hwInitOk (k : Nat) (s : State) : (returnFromIrq k s).hwInitOk = s.hwInitOk := by simp only [returnFromIrq]; split <;> rfl
@[simp] theorem returnFromIrq_thisAddress (k : Nat) (s : State) : (returnFromIrq k s).thisAddress = s.thisAddress := by simp only [returnFromIrq]; split <;> rfl
@[simp] theorem returnFromIrq_mode (k : Nat) (s : State) : (returnFromIrq k s).mode = s.mode := by simp only [returnFromIrq]; split <;> rfl
@[simp] theorem returnFromIrq_cadDetected (k : Nat) (s : State) : (returnFromIrq k s).cadDetected = s.cadDetected := by simp only [returnFromIrq]; split <;> rfl
@[simp] theorem returnFromIrq_lastHeaderId (k : Nat) (s : State) : (returnFromIrq k s).lastHeaderId = s.lastHeaderId := by simp only [returnFromIrq]; split <;> rfl
@[simp] theorem returnFromIrq_lastReceivedPayload (k : Nat) (s : State) : (returnFromIrq k s).lastReceivedPayload = s.lastReceivedPayload := by simp only [returnFromIrq]; split <;> rfl
@[simp] theorem returnFromIrq_receiveCallback (k : Nat) (s : State) : (returnFromIrq k s).receiveCallback = s.receiveCallback := by simp only [returnFromIrq]; split <;> rfl
@[simp] theorem returnFromIrq_cfg (k : Nat) (s : State) : (returnFromIrq k s).cfg = s.cfg := by simp only [returnFromIrq]; split <;> rfl
@[simp] theorem returnFromIrq_app (k : Nat) (s : State) : (returnFromIrq k s).app = s.app := by simp only [returnFromIrq]; split <;> rfl
@[simp] theorem returnFromIrq_radio (k : Nat) (s : State) : (returnFromIrq k s).radio = s.radio := by simp only [returnFromIrq]; split <;> rfl
@[simp] theorem returnFromIrq_clock (k : Nat) (s : State) : (returnFromIrq k s).clock = s.clock := by simp only [returnFromIrq]; split <;> rfl
@[simp] theorem returnFromIrq_oracle (k : Nat) (s : State) : (returnFromIrq k s).oracle = s.oracle := by simp only [returnFromIrq]; split <;> rfl
@[simp] theorem returnFromIrq_script (k : Nat) (s : State) : (returnFromIrq k s).script = s.script := by simp only [returnFromIrq]; split <;> rfl
@[simp] theorem returnFromIrq_obs (k : Nat) (s : State) : (returnFromIrq k s).obs = s.obs := by simp only [returnFromIrq]; split <;> rfl

/-! ### radioWriteMode changes radio, obs only -/

@[simp] theorem radioWriteMode_par (m : HwMode) (s : State) : (radioWriteMode m s).par = s.par := by simp only [radioWriteMode]; split <;> rfl
@[simp] theorem radioWriteMode_life (m : HwMode) (s : State) : (radioWriteMode m s).life = s.life := by simp only [radioWriteMode]; split <;> rfl
@[simp] theorem radioWriteMode_hwInitOk (m : HwMode) (s : State) : (radioWriteMode m s).hwInitOk = s.hwInitOk := by simp only [radioWriteMode]; split <;> rfl
@[simp] theorem radioWriteMode_thisAddress (m : HwMode) (s : State) : (radioWriteMode m s).thisAddress = s.thisAddress := by simp only [radioWriteMode]; split <;> rfl
@[simp] theorem radioWriteMode_mode (m : HwMode) (s : State) : (radioWriteMode m s).mode = s.mode := by simp only [radioWriteMode]; split <;> rfl
@[simp] theorem radioWriteMode_cadDetected (m : HwMode) (s : State) : (radioWriteMode m s).cadDetected = s.cadDetected := by simp only [radioWriteMode]; split <;> rfl
@[simp] theorem radioWriteMode_lastHeaderId (m : HwMode) (s : State) : (radioWriteMode m s).lastHeaderId = s.lastHeaderId := by simp only [radioWriteMode]; split <;> rfl
@[simp] theorem radioWriteMode_lastReceivedPayload (m : HwMode) (s : State) : (radioWriteMode m s).lastReceivedPayload = s.lastReceivedPayload := by simp only [radioWriteMode]; split <;> rfl
@[simp] theorem radioWriteMode_receiveCallback (m : HwMode) (s : State) : (radioWriteMode m s).receiveCallback = s.receiveCallback := by simp only [radioWriteMode]; split <;> rfl
@[simp] theorem radioWriteMode_cfg (m : HwMode) (s : State) : (radioWriteMode m s).cfg = s.cfg := by simp only [radioWriteMode]; split <;> rfl
@[simp] theorem radioWriteMode_app (m : HwMode) (s : State) : (radioWriteMode m s).app = s.app := by simp only [radioWriteMode]; split <;> rfl
@[simp] theorem radioWriteMode_isrs (m : HwMode) (s : State) : (radioWriteMode m s).isrs = s.isrs := by simp only [radioWriteMode]; split <;> rfl
@[simp] theorem radioWriteMode_edgeLatched (m : HwMode) (s : State) : (radioWriteMode m s).edgeLatched = s.edgeLatched := by simp only [radioWriteMode]; split <;> rfl
@[simp] theorem radioWriteMode_clock (m : HwMode) (s : State) : (radioWriteMode m s).clock = s.clock := by simp only [radioWriteMode]; split <;> rfl
@[simp] theorem radioWriteMode_oracle (m : HwMode) (s : State) : (radioWriteMode m s).oracle = s.oracle := by simp only [radioWriteMode]; split <;> rfl
@[simp] theorem radioWriteMode_script (m : HwMode) (s : State) : (radioWriteMode m s).script = s.script := by simp only [radioWriteMode]; split <;> rfl

/-! ### radioMapIrq changes radio, obs, isrs, edgeLatched only -/

@[simp] theorem radioMapIrq_par (src : IrqSource) (s : State) : (radioMapIrq src s).par = s.par := by simp only [radioMapIrq]; split <;> simp
@[simp] theorem radioMapIrq_life (src : IrqSource) (s : State) : (radioMapIrq src s).life = s.life := by simp only [radioMapIrq]; split <;> simp
@[simp] theorem radioMapIrq_hwInitOk (src : IrqSource) (s : State) : (radioMapIrq src s).hwInitOk = s.hwInitOk := by simp only [radioMapIrq]; split <;> simp
@[simp] theorem radioMapIrq_thisAddress (src : IrqSource) (s : State) : (radioMapIrq src s).thisAddress = s.thisAddress := by simp only [radioMapIrq]; split <;> simp
@[simp] theorem radioMapIrq_mode (src : IrqSource) (s : State) : (radioMapIrq src s).mode = s.mode := by simp only [radioMapIrq]; split <;> simp
@[simp] theorem radioMapIrq_cadDetected (src : IrqSource) (s : State) : (radioMapIrq src s).cadDetected = s.cadDetected := by simp only [radioMapIrq]; split <;> simp
@[simp] theorem radioMapIrq_lastHeaderId (src : IrqSource) (s : State) : (radioMapIrq src s).lastHeaderId = s.lastHeaderId := by simp only [radioMapIrq]; split <;> simp
@[simp] theorem radioMapIrq_lastReceivedPayload (src : IrqSource) (s : State) : (radioMapIrq src s).lastReceivedPayload = s.lastReceivedPayload := by simp only [radioMapIrq]; split <;> simp
@[simp] theorem radioMapIrq_receiveCallback (src : IrqSource) (s : State) : (radioMapIrq src s).receiveCallback = s.receiveCallback := by simp only [radioMapIrq]; split <;> simp
@[simp] theorem radioMapIrq_cfg (src : IrqSource) (s : State) : (radioMapIrq src s).cfg = s.cfg := by simp only [radioMapIrq]; split <;> simp
@[simp] theorem radioMapIrq_app (src : IrqSource) (s : State) : (radioMapIrq src s).app = s.app := by simp only [radioMapIrq]; split <;> simp
@[simp] theorem radioMapIrq_clock (src : IrqSource) (s : State) : (radioMapIrq src s).clock = s.clock := by simp only [radioMapIrq]; split <;> simp
@[simp] theorem radioMapIrq_oracle (src : IrqSource) (s : State) : (radioMapIrq src s).oracle = s.oracle := by simp only [radioMapIrq]; split <;> simp
@[simp] theorem radioMapIrq_script (src : IrqSource) (s : State) : (radioMapIrq src s).script = s.script := by simp only [radioMapIrq]; split <;> simp

/-! ### radioClearIrqFlags changes radio, obs only -/

@[simp] theorem radioClearIrqFlags_par (s : State) : (radioClearIrqFlags s).par = s.par := by rfl
@[simp] theorem radioClearIrqFlags_life (s : State) : (radioClearIrqFlags s).life = s.life := by rfl
@[simp] theorem radioClearIrqFlags_hwInitOk (s : State) : (radioClearIrqFlags s).hwInitOk = s.hwInitOk := by rfl
@[simp] theorem radioClearIrqFlags_thisAddress (s : State) : (radioClearIrqFlags s).thisAddress = s.thisAddress := by rfl
@[simp] theorem radioClearIrqFlags_mode (s : State) : (radioClearIrqFlags s).mode = s.mode := by rfl
@[simp] theorem radioClearIrqFlags_cadDetected (s : State) : (radioClearIrqFlags s).cadDetected = s.cadDetected := by rfl
@[simp] theorem radioClearIrqFlags_lastHeaderId (s : State) : (radioClearIrqFlags s).lastHeaderId = s.lastHeaderId := by rfl
@[simp] theorem radioClearIrqFlags_lastReceivedPayload (s : State) : (radioClearIrqFlags s).lastReceivedPayload = s.lastReceivedPayload := by rfl
@[simp] theorem radioClearIrqFlags_receiveCallback (s : State) : (radioClearIrqFlags s).receiveCallback = s.receiveCallback := by rfl
@[simp] theorem radioClearIrqFlags_cfg (s : State) : (radioClearIrqFlags s).cfg = s.cfg := by rfl
@[simp] theorem radioClearIrqFlags_app (s : State) : (radioClearIrqFlags s).app = s.app := by rfl
@[simp] theorem radioClearIrqFlags_isrs (s : State) : (radioClearIrqFlags s).isrs = s.isrs := by rfl
@[simp] theorem radioClearIrqFlags_edgeLatched (s : State) : (radioClearIrqFlags s).edgeLatched = s.edgeLatched := by rfl
@[simp] theorem radioClearIrqFlags_clock (s : State) : (radioClearIrqFlags s).clock = s.clock := by rfl
@[simp] theorem radioClearIrqFlags_oracle (s : State) : (radioClearIrqFlags s).oracle = s.oracle := by rfl
@[simp] theorem radioClearIrqFlags_script (s : State) : (radioClearIrqFlags s).script = s.script := by rfl

/-! ### radioFifoWriteAt0 changes radio, obs only -/

@[simp] theorem radioFifoWriteAt0_par (fr : Bytes) (s : State) : (radioFifoWriteAt0 fr s).par = s.par := by rfl
@[simp] theorem radioFifoWriteAt0_life (fr : Bytes) (s : State) : (radioFifoWriteAt0 fr s).life = s.life := by rfl
@[simp] theorem radioFifoWriteAt0_hwInitOk (fr : Bytes) (s : State) : (radioFifoWriteAt0 fr s).hwInitOk = s.hwInitOk := by rfl
@[simp] theorem radioFifoWriteAt0_thisAddress (fr : Bytes) (s : State) : (radioFifoWriteAt0 fr s).thisAddress = s.thisAddress := by rfl
@[simp] theorem radioFifoWriteAt0_mode (fr : Bytes) (s : State) : (radioFifoWriteAt0 fr s).mode = s.mode := by rfl
@[simp] theorem radioFifoWriteAt0_cadDetected (fr : Bytes) (s : State) : (radioFifoWriteAt0 fr s).cadDetected = s.cadDetected := by rfl
@[simp] theorem radioFifoWriteAt0_lastHeaderId (fr : Bytes) (s : State) : (radioFifoWriteAt0 fr s).lastHeaderId = s.lastHeaderId := by rfl
@[simp] theorem radioFifoWriteAt0_lastReceivedPayload (fr : Bytes) (s : State) : (radioFifoWriteAt0 fr s).lastReceivedPayload = s.lastReceivedPayload := by rfl
@[simp] theorem radioFifoWriteAt0_receiveCallback (fr : Bytes) (s : State) : (radioFifoWriteAt0 fr s).receiveCallback = s.receiveCallback := by rfl
@[simp] theorem radioFifoWriteAt0_cfg (fr : Bytes) (s : State) : (radioFifoWriteAt0 fr s).cfg = s.cfg := by rfl
@[simp] theorem radioFifoWriteAt0_app (fr : Bytes) (s : State) : (radioFifoWriteAt0 fr s).app = s.app := by rfl
@[simp] theorem radioFifoWriteAt0_isrs (fr : Bytes) (s : State) : (radioFifoWriteAt0 fr s).isrs = s.isrs := by rfl
@[simp] theorem radioFifoWriteAt0_edgeLatched (fr : Bytes) (s : State) : (radioFifoWriteAt0 fr s).edgeLatched = s.edgeLatched := by rfl
@[simp] theorem radioFifoWriteAt0_clock (fr : Bytes) (s : State) : (radioFifoWriteAt0 fr s).clock = s.clock := by rfl
@[simp] theorem radioFifoWriteAt0_oracle (fr : Bytes) (s : State) : (radioFifoWriteAt0 fr s).oracle = s.oracle := by rfl
@[simp] theorem radioFifoWriteAt0_script (fr : Bytes) (s : State) : (radioFifoWriteAt0 fr s).script = s.script := by rfl

/-! ### radioWritePayloadLength changes radio, obs only -/

@[simp] theorem radioWritePayloadLength_par (n : Byte) (s : State) : (radioWritePayloadLength n s).par = s.par := by rfl
@[simp] theorem radioWritePayloadLength_life (n : Byte) (s : State) : (radioWritePayloadLength n s).life = s.life := by rfl
@[simp] theorem radioWritePayloadLength_hwInitOk (n : Byte) (s : State) : (radioWritePayloadLength n s).hwInitOk = s.hwInitOk := by rfl
@[simp] theorem radioWritePayloadLength_thisAddress (n : Byte) (s : State) : (radioWritePayloadLength n s).thisAddress = s.thisAddress := by rfl
@[simp] theorem radioWritePayloadLength_mode (n : Byte) (s : State) : (radioWritePayloadLength n s).mode = s.mode := by rfl
@[simp] theorem radioWritePayloadLength_cadDetected (n : Byte) (s : State) : (radioWritePayloadLength n s).cadDetected = s.cadDetected := by rfl
@[simp] theorem radioWritePayloadLength_lastHeaderId (n : Byte) (s : State) : (radioWritePayloadLength n s).lastHeaderId = s.lastHeaderId := by rfl
@[simp] theorem radioWritePayloadLength_lastReceivedPayload (n : Byte) (s : State) : (radioWritePayloadLength n s).lastReceivedPayload = s.lastReceivedPayload := by rfl
@[simp] theorem radioWritePayloadLength_receiveCallback (n : Byte) (s : State) : (radioWritePayloadLength n s).receiveCallback = s.receiveCallback := by rfl
@[simp] theorem radioWritePayloadLength_cfg (n : Byte) (s : State) : (radioWritePayloadLength n s).cfg = s.cfg := by rfl
@[simp] theorem radioWritePayloadLength_app (n : Byte) (s : State) : (radioWritePayloadLength n s).app = s.app := by rfl
@[simp] theorem radioWritePayloadLength_isrs (n : Byte) (s : State) : (radioWritePayloadLength n s).isrs = s.isrs := by rfl
@[simp] theorem radioWritePayloadLength_edgeLatched (n : Byte) (s : State) : (radioWritePayloadLength n s).edgeLatched = s.edgeLatched := by rfl
@[simp] theorem radioWritePayloadLength_clock (n : Byte) (s : State) : (radioWritePayloadLength n s).clock = s.clock := by rfl
@[simp] theorem radioWritePayloadLength_oracle (n : Byte) (s : State) : (radioWritePayloadLength n s).oracle = s.oracle := by rfl
@[simp] theorem radioWritePayloadLength_script (n : Byte) (s : State) : (radioWritePayloadLength n s).script = s.script := by rfl

/-! ### radioReadIrqFlags changes obs only -/

@[simp] theorem radioReadIrqFlags_par (s : State) : ((radioReadIrqFlags s).2).par = s.par := by rfl
@[simp] theorem radioReadIrqFlags_life (s : State) : ((radioReadIrqFlags s).2).life = s.life := by rfl
@[simp] theorem radioReadIrqFlags_hwInitOk (s : State) : ((radioReadIrqFlags s).2).hwInitOk = s.hwInitOk := by rfl
@[simp] theorem radioReadIrqFlags_thisAddress (s : State) : ((radioReadIrqFlags s).2).thisAddress = s.thisAddress := by rfl
@[simp] theorem radioReadIrqFlags_mode (s : State) : ((radioReadIrqFlags s).2).mode = s.mode := by rfl
@[simp] theorem radioReadIrqFlags_cadDetected (s : State) : ((radioReadIrqFlags s).2).cadDetected = s.cadDetected := by rfl
@[simp] theorem radioReadIrqFlags_lastHeaderId (s : State) : ((radioReadIrqFlags s).2).lastHeaderId = s.lastHeaderId := by rfl
@[simp] theorem radioReadIrqFlags_lastReceivedPayload (s : State) : ((radioReadIrqFlags s).2).lastReceivedPayload = s.lastReceivedPayload := by rfl
@[simp] theorem radioReadIrqFlags_receiveCallback (s : State) : ((radioReadIrqFlags s).2).receiveCallback = s.receiveCallback := by rfl
@[simp] theorem radioReadIrqFlags_cfg (s : State) : ((radioReadIrqFlags s).2).cfg = s.cfg := by rfl
@[simp] theorem radioReadIrqFlags_app (s : State) : ((radioReadIrqFlags s).2).app = s.app := by rfl
@[simp] theorem radioReadIrqFlags_isrs (s : State) : ((radioReadIrqFlags s).2).isrs = s.isrs := by rfl
@[simp] theorem radioReadIrqFlags_edgeLatched (s : State) : ((radioReadIrqFlags s).2).edgeLatched = s.edgeLatched := by rfl
@[simp] theorem radioReadIrqFlags_radio (s : State) : ((radioReadIrqFlags s).2).radio = s.radio := by rfl
@[simp] theorem radioReadIrqFlags_clock (s : State) : ((radioReadIrqFlags s).2).clock = s.clock := by rfl
@[simp] theorem radioReadIrqFlags_oracle (s : State) : ((radioReadIrqFlags s).2).oracle = s.oracle := by rfl
@[simp] theorem radioReadIrqFlags_script (s : State) : ((radioReadIrqFlags s).2).script = s.script := by rfl

/-! ### readPacket changes radio, obs only -/

/-- What step H2a leaves: the three radio operations in the order written. -/
theorem readPacket_snd (s : State) :
    (readPacket s).2 =
      (((((s.emit (.radio .readRxLength)).setRadio { s.radio with fifoPtr := .received 0 }).emit
          (.radio .seekRxStart)).setRadio
            { s.radio with fifoPtr := .received (0 + (BitVec.ofNat 8 s.radio.rxPkt.length).toNat) }).emit
          (.radio (.fifoRead (BitVec.ofNat 8 s.radio.rxPkt.length).toNat))) := by
  simp only [readPacket, radioReadRxLength, radioSeekRxStart, radioFifoRead, advancePtr, State.emit_radio, State.setRadio_radio]

@[simp] theorem readPacket_par (s : State) : ((readPacket s).2).par = s.par := by
  rw [readPacket_snd]; simp only [State.emit_par, State.setRadio_par]
@[simp] theorem readPacket_life (s : State) : ((readPacket s).2).life = s.life := by
  rw [readPacket_snd]; simp only [State.emit_life, State.setRadio_life]
@[simp] theorem readPacket_hwInitOk (s : State) : ((readPacket s).2).hwInitOk = s.hwInitOk := by
  rw [readPacket_snd]; simp only [State.emit_hwInitOk, State.setRadio_hwInitOk]
@[simp] theorem readPacket_thisAddress (s : State) : ((readPacket s).2).thisAddress = s.thisAddress := by
  rw [readPacket_snd]; simp only [State.emit_thisAddress, State.setRadio_thisAddress]
@[simp] theorem readPacket_mode (s : State) : ((readPacket s).2).mode = s.mode := by
  rw [readPacket_snd]; simp only [State.emit_mode, State.setRadio_mode]
@[simp] theorem readPacket_cadDetected (s : State) : ((readPacket s).2).cadDetected = s.cadDetected := by
  rw [readPacket_snd]; simp only [State.emit_cadDetected, State.setRadio_cadDetected]
@[simp] theorem readPacket_lastHeaderId (s : State) : ((readPacket s).2).lastHeaderId = s.lastHeaderId := by
  rw [readPacket_snd]; simp only [State.emit_lastHeaderId, State.setRadio_lastHeaderId]
@[simp] theorem readPacket_lastReceivedPayload (s : State) : ((readPacket s).2).lastReceivedPayload = s.lastReceivedPayload := by
  rw [readPacket_snd]; simp only [State.emit_lastReceivedPayload, State.setRadio_lastReceivedPayload]
@[simp] theorem readPacket_receiveCallback (s : State) : ((readPacket s).2).receiveCallback = s.receiveCallback := by
  rw [readPacket_snd]; simp only [State.emit_receiveCallback, State.setRadio_receiveCallback]
@[simp] theorem readPacket_cfg (s : State) : ((readPacket s).2).cfg = s.cfg := by
  rw [readPacket_snd]; simp only [State.emit_cfg, State.setRadio_cfg]
@[simp] theorem readPacket_app (s : State) : ((readPacket s).2).app = s.app := by
  rw [readPacket_snd]; simp only [State.emit_app, State.setRadio_app]
@[simp] theorem readPacket_isrs (s : State) : ((readPacket s).2).isrs = s.isrs := by
  rw [readPacket_snd]; simp only [State.emit_isrs, State.setRadio_isrs]
@[simp] theorem readPacket_edgeLatched (s : State) : ((readPacket s).2).edgeLatched = s.edgeLatched := by
  rw [readPacket_snd]; simp only [State.emit_edgeLatched, State.setRadio_edgeLatched]
@[simp] theorem readPacket_clock (s : State) : ((readPacket s).2).clock = s.clock := by
  rw [readPacket_snd]; simp only [State.emit_clock, State.setRadio_clock]
@[simp] theorem readPacket_oracle (s : State) : ((readPacket s).2).oracle = s.oracle := by
  rw [readPacket_snd]; simp only [State.emit_oracle, State.setRadio_oracle]
@[simp] theorem readPacket_script (s : State) : ((readPacket s).2).script = s.script := by
  rw [readPacket_snd]; simp only [State.emit_script, State.setRadio_script]

/-! ### readMetrics changes obs only -/

@[simp] theorem readMetrics_par (s : State) : ((readMetrics s).2).par = s.par := by rfl
@[simp] theorem readMetrics_life (s : State) : ((readMetrics s).2).life = s.life := by rfl
@[simp] theorem readMetrics_hwInitOk (s : State) : ((readMetrics s).2).hwInitOk = s.hwInitOk := by rfl
@[simp] theorem readMetrics_thisAddress (s : State) : ((readMetrics s).2).thisAddress = s.thisAddress := by rfl
@[simp] theorem readMetrics_mode (s : State) : ((readMetrics s).2).mode = s.mode := by rfl
@[simp] theorem readMetrics_cadDetected (s : State) : ((readMetrics s).2).cadDetected = s.cadDetected := by rfl
@[simp] theorem readMetrics_lastHeaderId (s : State) : ((readMetrics s).2).lastHeaderId = s.lastHeaderId := by rfl
@[simp] theorem readMetrics_lastReceivedPayload (s : State) : ((readMetrics s).2).lastReceivedPayload = s.lastReceivedPayload := by rfl
@[simp] theorem readMetrics_receiveCallback (s : State) : ((readMetrics s).2).receiveCallback = s.receiveCallback := by rfl
@[simp] theorem readMetrics_cfg (s : State) : ((readMetrics s).2).cfg = s.cfg := by rfl
@[simp] theorem readMetrics_app (s : State) : ((readMetrics s).2).app = s.app := by rfl
@[simp] theorem readMetrics_isrs (s : State) : ((readMetrics s).2).isrs = s.isrs := by rfl
@[simp] theorem readMetrics_edgeLatched (s : State) : ((readMetrics s).2).edgeLatched = s.edgeLatched := by rfl
@[simp] theorem readMetrics_radio (s : State) : ((readMetrics s).2).radio = s.radio := by rfl
@[simp] theorem readMetrics_clock (s : State) : ((readMetrics s).2).clock = s.clock := by rfl
@[simp] theorem readMetrics_oracle (s : State) : ((readMetrics s).2).oracle = s.oracle := by rfl
@[simp] theorem readMetrics_script (s : State) : ((readMetrics s).2).script = s.script := by rfl

/-! ### raiseFlag changes radio, isrs, edgeLatched only -/

@[simp] theorem raiseFlag_par (src : IrqSource) (s : State) : (raiseFlag src s).par = s.par := by simp only [raiseFlag]; split <;> simp
@[simp] theorem raiseFlag_life (src : IrqSource) (s : State) : (raiseFlag src s).life = s.life := by simp only [raiseFlag]; split <;> simp
@[simp] theorem raiseFlag_hwInitOk (src : IrqSource) (s : State) : (raiseFlag src s).hwInitOk = s.hwInitOk := by simp only [raiseFlag]; split <;> simp
@[simp] theorem raiseFlag_thisAddress (src : IrqSource) (s : State) : (raiseFlag src s).thisAddress = s.thisAddress := by simp only [raiseFlag]; split <;> simp
@[simp] theorem raiseFlag_mode (src : IrqSource) (s : State) : (raiseFlag src s).mode = s.mode := by simp only [raiseFlag]; split <;> simp
@[simp] theorem raiseFlag_cadDetected (src : IrqSource) (s : State) : (raiseFlag src s).cadDetected = s.cadDetected := by simp only [raiseFlag]; split <;> simp
@[simp] theorem raiseFlag_lastHeaderId (src : IrqSource) (s : State) : (raiseFlag src s).lastHeaderId = s.lastHeaderId := by simp only [raiseFlag]; split <;> simp
@[simp] theorem raiseFlag_lastReceivedPayload (src : IrqSource) (s : State) : (raiseFlag src s).lastReceivedPayload = s.lastReceivedPayload := by simp only [raiseFlag]; split <;> simp
@[simp] theorem raiseFlag_receiveCallback (src : IrqSource) (s : State) : (raiseFlag src s).receiveCallback = s.receiveCallback := by simp only [raiseFlag]; split <;> simp
@[simp] theorem raiseFlag_cfg (src : IrqSource) (s : State) : (raiseFlag src s).cfg = s.cfg := by simp only [raiseFlag]; split <;> simp
@[simp] theorem raiseFlag_app (src : IrqSource) (s : State) : (raiseFlag src s).app = s.app := by simp only [raiseFlag]; split <;> simp
@[simp] theorem raiseFlag_clock (src : IrqSource) (s : State) : (raiseFlag src s).clock = s.clock := by simp only [raiseFlag]; split <;> simp
@[simp] theorem raiseFlag_oracle (src : IrqSource) (s : State) : (raiseFlag src s).oracle = s.oracle := by simp only [raiseFlag]; split <;> simp
@[simp] theorem raiseFlag_script (src : IrqSource) (s : State) : (raiseFlag src s).script = s.script := by simp only [raiseFlag]; split <;> simp
@[simp] theorem raiseFlag_obs (src : IrqSource) (s : State) : (raiseFlag src s).obs = s.obs := by simp only [raiseFlag]; split <;> simp

/-! ### radioRests changes radio only -/

@[simp] theorem radioRests_par (b : Bool) (s : State) : (radioRests b s).par = s.par := by unfold radioRests; split <;> rfl
@[simp] theorem radioRests_life (b : Bool) (s : State) : (radioRests b s).life = s.life := by unfold radioRests; split <;> rfl
@[simp] theorem radioRests_hwInitOk (b : Bool) (s : State) : (radioRests b s).hwInitOk = s.hwInitOk := by unfold radioRests; split <;> rfl
@[simp] theorem radioRests_thisAddress (b : Bool) (s : State) : (radioRests b s).thisAddress = s.thisAddress := by unfold radioRests; split <;> rfl
@[simp] theorem radioRests_mode (b : Bool) (s : State) : (radioRests b s).mode = s.mode := by unfold radioRests; split <;> rfl
@[simp] theorem radioRests_cadDetected (b : Bool) (s : State) : (radioRests b s).cadDetected = s.cadDetected := by unfold radioRests; split <;> rfl
@[simp] theorem radioRests_lastHeaderId (b : Bool) (s : State) : (radioRests b s).lastHeaderId = s.lastHeaderId := by unfold radioRests; split <;> rfl
@[simp] theorem radioRests_lastReceivedPayload (b : Bool) (s : State) : (radioRests b s).lastReceivedPayload = s.lastReceivedPayload := by unfold radioRests; split <;> rfl
@[simp] theorem radioRests_receiveCallback (b : Bool) (s : State) : (radioRests b s).receiveCallback = s.receiveCallback := by unfold radioRests; split <;> rfl
@[simp] theorem radioRests_cfg (b : Bool) (s : State) : (radioRests b s).cfg = s.cfg := by unfold radioRests; split <;> rfl
@[simp] theorem radioRests_app (b : Bool) (s : State) : (radioRests b s).app = s.app := by unfold radioRests; split <;> rfl
@[simp] theorem radioRests_isrs (b : Bool) (s : State) : (radioRests b s).isrs = s.isrs := by unfold radioRests; split <;> rfl
@[simp] theorem radioRests_edgeLatched (b : Bool) (s : State) : (radioRests b s).edgeLatched = s.edgeLatched := by unfold radioRests; split <;> rfl
@[simp] theorem radioRests_clock (b : Bool) (s : State) : (radioRests b s).clock = s.clock := by unfold radioRests; split <;> rfl
@[simp] theorem radioRests_oracle (b : Bool) (s : State) : (radioRests b s).oracle = s.oracle := by unfold radioRests; split <;> rfl
@[simp] theorem radioRests_script (b : Bool) (s : State) : (radioRests b s).script = s.script := by unfold radioRests; split <;> rfl
@[simp] theorem radioRests_obs (b : Bool) (s : State) : (radioRests b s).obs = s.obs := by unfold radioRests; split <;> rfl

/-! ### radioStep changes radio, isrs, edgeLatched only -/

@[simp] theorem radioStep_par (e : RadioEvent) (s : State) : (radioStep e s).par = s.par := by unfold radioStep; split <;> split <;> simp
@[simp] theorem radioStep_life (e : RadioEvent) (s : State) : (radioStep e s).life = s.life := by unfold radioStep; split <;> split <;> simp
@[simp] theorem radioStep_hwInitOk (e : RadioEvent) (s : State) : (radioStep e s).hwInitOk = s.hwInitOk := by unfold radioStep; split <;> split <;> simp
@[simp] theorem radioStep_thisAddress (e : RadioEvent) (s : State) : (radioStep e s).thisAddress = s.thisAddress := by unfold radioStep; split <;> split <;> simp
@[simp] theorem radioStep_mode (e : RadioEvent) (s : State) : (radioStep e s).mode = s.mode := by unfold radioStep; split <;> split <;> simp
@[simp] theorem radioStep_cadDetected (e : RadioEvent) (s : State) : (radioStep e s).cadDetected = s.cadDetected := by unfold radioStep; split <;> split <;> simp
@[simp] theorem radioStep_lastHeaderId (e : RadioEvent) (s : State) : (radioStep e s).lastHeaderId = s.lastHeaderId := by unfold radioStep; split <;> split <;> simp
@[simp] theorem radioStep_lastReceivedPayload (e : RadioEvent) (s : State) : (radioStep e s).lastReceivedPayload = s.lastReceivedPayload := by unfold radioStep; split <;> split <;> simp
@[simp] theorem radioStep_receiveCallback (e : RadioEvent) (s : State) : (radioStep e s).receiveCallback = s.receiveCallback := by unfold radioStep; split <;> split <;> simp
@[simp] theorem radioStep_cfg (e : RadioEvent) (s : State) : (radioStep e s).cfg = s.cfg := by unfold radioStep; split <;> split <;> simp
@[simp] theorem radioStep_app (e : RadioEvent) (s : State) : (radioStep e s).app = s.app := by unfold radioStep; split <;> split <;> simp
@[simp] theorem radioStep_clock (e : RadioEvent) (s : State) : (radioStep e s).clock = s.clock := by unfold radioStep; split <;> split <;> simp
@[simp] theorem radioStep_oracle (e : RadioEvent) (s : State) : (radioStep e s).oracle = s.oracle := by unfold radioStep; split <;> split <;> simp
@[simp] theorem radioStep_script (e : RadioEvent) (s : State) : (radioStep e s).script = s.script := by unfold radioStep; split <;> split <;> simp
@[simp] theorem radioStep_obs (e : RadioEvent) (s : State) : (radioStep e s).obs = s.obs := by unfold radioStep; split <;> split <;> simp

/-! ### setIdle changes radio, obs, mode only -/

@[simp] theorem setIdle_par (s : State) : (setIdle s).par = s.par := by unfold setIdle; split <;> simp
@[simp] theorem setIdle_life (s : State) : (setIdle s).life = s.life := by unfold setIdle; split <;> simp
@[simp] theorem setIdle_hwInitOk (s : State) : (setIdle s).hwInitOk = s.hwInitOk := by unfold setIdle; split <;> simp
@[simp] theorem setIdle_thisAddress (s : State) : (setIdle s).thisAddress = s.thisAddress := by unfold setIdle; split <;> simp
@[simp] theorem setIdle_cadDetected (s : State) : (setIdle s).cadDetected = s.cadDetected := by unfold setIdle; split <;> simp
@[simp] theorem setIdle_lastHeaderId (s : State) : (setIdle s).lastHeaderId = s.lastHeaderId := by unfold setIdle; split <;> simp
@[simp] theorem setIdle_lastReceivedPayload (s : State) : (setIdle s).lastReceivedPayload = s.lastReceivedPayload := by unfold setIdle; split <;> simp
@[simp] theorem setIdle_receiveCallback (s : State) : (setIdle s).receiveCallback = s.receiveCallback := by unfold setIdle; split <;> simp
@[simp] theorem setIdle_cfg (s : State) : (setIdle s).cfg = s.cfg := by unfold setIdle; split <;> simp
@[simp] theorem setIdle_app (s : State) : (setIdle s).app = s.app := by unfold setIdle; split <;> simp
@[simp] theorem setIdle_isrs (s : State) : (setIdle s).isrs = s.isrs := by unfold setIdle; split <;> simp
@[simp] theorem setIdle_edgeLatched (s : State) : (setIdle s).edgeLatched = s.edgeLatched := by unfold setIdle; split <;> simp
@[simp] theorem setIdle_clock (s : State) : (setIdle s).clock = s.clock := by unfold setIdle; split <;> simp
@[simp] theorem setIdle_oracle (s : State) : (setIdle s).oracle = s.oracle := by unfold setIdle; split <;> simp
@[simp] theorem setIdle_script (s : State) : (setIdle s).script = s.script := by unfold setIdle; split <;> simp

/-! ### setTx changes radio, obs, mode, isrs, edgeLatched only -/

@[simp] theorem setTx_par (s : State) : (setTx s).par = s.par := by unfold setTx; split <;> simp
@[simp] theorem setTx_life (s : State) : (setTx s).life = s.life := by unfold setTx; split <;> simp
@[simp] theorem setTx_hwInitOk (s : State) : (setTx s).hwInitOk = s.hwInitOk := by unfold setTx; split <;> simp
@[simp] theorem setTx_thisAddress (s : State) : (setTx s).thisAddress = s.thisAddress := by unfold setTx; split <;> simp
@[simp] theorem setTx_cadDetected (s : State) : (setTx s).cadDetected = s.cadDetected := by unfold setTx; split <;> simp
@[simp] theorem setTx_lastHeaderId (s : State) : (setTx s).lastHeaderId = s.lastHeaderId := by unfold setTx; split <;> simp
@[simp] theorem setTx_lastReceivedPayload (s : State) : (setTx s).lastReceivedPayload = s.lastReceivedPayload := by unfold setTx; split <;> simp
@[simp] theorem setTx_receiveCallback (s : State) : (setTx s).receiveCallback = s.receiveCallback := by unfold setTx; split <;> simp
@[simp] theorem setTx_cfg (s : State) : (setTx s).cfg = s.cfg := by unfold setTx; split <;> simp
@[simp] theorem setTx_app (s : State) : (setTx s).app = s.app := by unfold setTx; split <;> simp
@[simp] theorem setTx_clock (s : State) : (setTx s).clock = s.clock := by unfold setTx; split <;> simp
@[simp] theorem setTx_oracle (s : State) : (setTx s).oracle = s.oracle := by unfold setTx; split <;> simp
@[simp] theorem setTx_script (s : State) : (setTx s).script = s.script := by unfold setTx; split <;> simp

/-! ### setRx changes radio, obs, mode, isrs, edgeLatched only -/

@[simp] theorem setRx_par (s : State) : (setRx s).par = s.par := by unfold setRx; split <;> simp
@[simp] theorem setRx_life (s : State) : (setRx s).life = s.life := by unfold setRx; split <;> simp
@[simp] theorem setRx_hwInitOk (s : State) : (setRx s).hwInitOk = s.hwInitOk := by unfold setRx; split <;> simp
@[simp] theorem setRx_thisAddress (s : State) : (setRx s).thisAddress = s.thisAddress := by unfold setRx; split <;> simp
@[simp] theorem setRx_cadDetected (s : State) : (setRx s).cadDetected = s.cadDetected := by unfold setRx; split <;> simp
@[simp] theorem setRx_lastHeaderId (s : State) : (setRx s).lastHeaderId = s.lastHeaderId := by unfold setRx; split <;> simp
@[simp] theorem setRx_lastReceivedPayload (s : State) : (setRx s).lastReceivedPayload = s.lastReceivedPayload := by unfold setRx; split <;> simp
@[simp] theorem setRx_receiveCallback (s : State) : (setRx s).receiveCallback = s.receiveCallback := by unfold setRx; split <;> simp
@[simp] theorem setRx_cfg (s : State) : (setRx s).cfg = s.cfg := by unfold setRx; split <;> simp
@[simp] theorem setRx_app (s : State) : (setRx s).app = s.app := by unfold setRx; split <;> simp
@[simp] theorem setRx_clock (s : State) : (setRx s).clock = s.clock := by unfold setRx; split <;> simp
@[simp] theorem setRx_oracle (s : State) : (setRx s).oracle = s.oracle := by unfold setRx; split <;> simp
@[simp] theorem setRx_script (s : State) : (setRx s).script = s.script := by unfold setRx; split <;> simp

/-! ### sleepMode changes radio, obs, mode only -/

@[simp] theorem sleepMode_par (s : State) : (sleepMode s).par = s.par := by unfold sleepMode; split <;> simp
@[simp] theorem sleepMode_life (s : State) : (sleepMode s).life = s.life := by unfold sleepMode; split <;> simp
@[simp] theorem sleepMode_hwInitOk (s : State) : (sleepMode s).hwInitOk = s.hwInitOk := by unfold sleepMode; split <;> simp
@[simp] theorem sleepMode_thisAddress (s : State) : (sleepMode s).thisAddress = s.thisAddress := by unfold sleepMode; split <;> simp
@[simp] theorem sleepMode_cadDetected (s : State) : (sleepMode s).cadDetected = s.cadDetected := by unfold sleepMode; split <;> simp
@[simp] theorem sleepMode_lastHeaderId (s : State) : (sleepMode s).lastHeaderId = s.lastHeaderId := by unfold sleepMode; split <;> simp
@[simp] theorem sleepMode_lastReceivedPayload (s : State) : (sleepMode s).lastReceivedPayload = s.lastReceivedPayload := by unfold sleepMode; split <;> simp
@[simp] theorem sleepMode_receiveCallback (s : State) : (sleepMode s).receiveCallback = s.receiveCallback := by unfold sleepMode; split <;> simp
@[simp] theorem sleepMode_cfg (s : State) : (sleepMode s).cfg = s.cfg := by unfold sleepMode; split <;> simp
@[simp] theorem sleepMode_app (s : State) : (sleepMode s).app = s.app := by unfold sleepMode; split <;> simp
@[simp] theorem sleepMode_isrs (s : State) : (sleepMode s).isrs = s.isrs := by unfold sleepMode; split <;> simp
@[simp] theorem sleepMode_edgeLatched (s : State) : (sleepMode s).edgeLatched = s.edgeLatched := by unfold sleepMode; split <;> simp
@[simp] theorem sleepMode_clock (s : State) : (sleepMode s).clock = s.clock := by unfold sleepMode; split <;> simp
@[simp] theorem sleepMode_oracle (s : State) : (sleepMode s).oracle = s.oracle := by unfold sleepMode; split <;> simp
@[simp] theorem sleepMode_script (s : State) : (sleepMode s).script = s.script := by unfold sleepMode; split <;> simp

/-! ### enterCad changes radio, obs, mode, isrs, edgeLatched only -/

@[simp] theorem enterCad_par (s : State) : (enterCad s).par = s.par := by simp [enterCad]
@[simp] theorem enterCad_life (s : State) : (enterCad s).life = s.life := by simp [enterCad]
@[simp] theorem enterCad_hwInitOk (s : State) : (enterCad s).hwInitOk = s.hwInitOk := by simp [enterCad]
@[simp] theorem enterCad_thisAddress (s : State) : (enterCad s).thisAddress = s.thisAddress := by simp [enterCad]
@[simp] theorem enterCad_cadDetected (s : State) : (enterCad s).cadDetected = s.cadDetected := by simp [enterCad]
@[simp] theorem enterCad_lastHeaderId (s : State) : (enterCad s).lastHeaderId = s.lastHeaderId := by simp [enterCad]
@[simp] theorem enterCad_lastReceivedPayload (s : State) : (enterCad s).lastReceivedPayload = s.lastReceivedPayload := by simp [enterCad]
@[simp] theorem enterCad_receiveCallback (s : State) : (enterCad s).receiveCallback = s.receiveCallback := by simp [enterCad]
@[simp] theorem enterCad_cfg (s : State) : (enterCad s).cfg = s.cfg := by simp [enterCad]
@[simp] theorem enterCad_app (s : State) : (enterCad s).app = s.app := by simp [enterCad]
@[simp] theorem enterCad_clock (s : State) : (enterCad s).clock = s.clock := by simp [enterCad]
@[simp] theorem enterCad_oracle (s : State) : (enterCad s).oracle = s.oracle := by simp [enterCad]
@[simp] theorem enterCad_script (s : State) : (enterCad s).script = s.script := by simp [enterCad]

/-! ### deliver changes obs only -/

@[simp] theorem deliver_par (x : IrqLocals) (s : State) : (deliver x s).par = s.par := by unfold deliver; split <;> (try split) <;> rfl
@[simp] theorem deliver_life (x : IrqLocals) (s : State) : (deliver x s).life = s.life := by unfold deliver; split <;> (try split) <;> rfl
@[simp] theorem deliver_hwInitOk (x : IrqLocals) (s : State) : (deliver x s).hwInitOk = s.hwInitOk := by unfold deliver; split <;> (try split) <;> rfl
@[simp] theorem deliver_thisAddress (x : IrqLocals) (s : State) : (deliver x s).thisAddress = s.thisAddress := by unfold deliver; split <;> (try split) <;> rfl
@[simp] theorem deliver_mode (x : IrqLocals) (s : State) : (deliver x s).mode = s.mode := by unfold deliver; split <;> (try split) <;> rfl
@[simp] theorem deliver_cadDetected (x : IrqLocals) (s : State) : (deliver x s).cadDetected = s.cadDetected := by unfold deliver; split <;> (try split) <;> rfl
@[simp] theorem deliver_lastHeaderId (x : IrqLocals) (s : State) : (deliver x s).lastHeaderId = s.lastHeaderId := by unfold deliver; split <;> (try split) <;> rfl
@[simp] theorem deliver_lastReceivedPayload (x : IrqLocals) (s : State) : (deliver x s).lastReceivedPayload = s.lastReceivedPayload := by unfold deliver; split <;> (try split) <;> rfl
@[simp] theorem deliver_receiveCallback (x : IrqLocals) (s : State) : (deliver x s).receiveCallback = s.receiveCallback := by unfold deliver; split <;> (try split) <;> rfl
@[simp] theorem deliver_cfg (x : IrqLocals) (s : State) : (deliver x s).cfg = s.cfg := by unfold deliver; split <;> (try split) <;> rfl
@[simp] theorem deliver_app (x : IrqLocals) (s : State) : (deliver x s).app = s.app := by unfold deliver; split <;> (try split) <;> rfl
@[simp] theorem deliver_isrs (x : IrqLocals) (s : State) : (deliver x s).isrs = s.isrs := by unfold deliver; split <;> (try split) <;> rfl
@[simp] theorem deliver_edgeLatched (x : IrqLocals) (s : State) : (deliver x s).edgeLatched = s.edgeLatched := by unfold deliver; split <;> (try split) <;> rfl
@[simp] theorem deliver_radio (x : IrqLocals) (s : State) : (deliver x s).radio = s.radio := by unfold deliver; split <;> (try split) <;> rfl
@[simp] theorem deliver_clock (x : IrqLocals) (s : State) : (deliver x s).clock = s.clock := by unfold deliver; split <;> (try split) <;> rfl
@[simp] theorem deliver_oracle (x : IrqLocals) (s : State) : (deliver x s).oracle = s.oracle := by unfold deliver; split <;> (try split) <;> rfl
@[simp] theorem deliver_script (x : IrqLocals) (s : State) : (deliver x s).script = s.script := by unfold deliver; split <;> (try split) <;> rfl

/-! ### The mode after each request (R136) -/

@[simp] theorem setIdle_mode (s : State) : (setIdle s).mode = .idle := by
  unfold setIdle; split <;> simp_all

@[simp] theorem setTx_mode (s : State) : (setTx s).mode = .tx := by
  unfold setTx; split <;> simp_all

@[simp] theorem setRx_mode (s : State) : (setRx s).mode = .rxContinuous := by
  unfold setRx; split <;> simp_all

@[simp] theorem sleepMode_mode (s : State) : (sleepMode s).mode = .sleep := by
  unfold sleepMode; split <;> simp_all

@[simp] theorem enterCad_mode (s : State) : (enterCad s).mode = .cad := rfl

/-! ### Requests that change nothing (R135) -/

theorem setIdle_of_idle {s : State} (h : s.mode = .idle) : setIdle s = s := if_pos h

theorem setTx_of_tx {s : State} (h : s.mode = .tx) : setTx s = s := if_pos h

theorem setRx_of_rx {s : State} (h : s.mode = .rxContinuous) : setRx s = s := if_pos h

theorem sleepMode_of_sleep {s : State} (h : s.mode = .sleep) : sleepMode s = s := if_pos h

end Sys2Proof.Machine
end

