-- ==== Sys2Proof/Laws/Thread.lean ====
section
/-! SUPPORT. What one step of an agent can do to the shared state, said once: every label's step is one of the effects listed here, and handing a result to a caller touches no state. -/

namespace Sys2Proof.Machine

/-- The shared state a turn leaves. -/
def turnState : Turn → State
  | .go _ s => s
  | .done _ s => s

@[simp] theorem turnState_go (st : Stack) (s : State) : turnState (.go st s) = s := rfl

@[simp] theorem turnState_done (v : Value) (s : State) : turnState (.done v s) = s := rfl

/-- Handing a result to the caller is control only. -/
@[simp] theorem turnState_resume (v : Value) (st : Stack) (s : State) : turnState (resume v st s) = s := by
  induction st generalizing v with
  | nil => rfl
  | cons f st ih => unfold resume; split <;> simp_all; split <;> simp_all

@[simp] theorem turnState_waitStart (c : WaitCond) (b : Time) (st : Stack) (s : State) :
    turnState (waitStart c b st s) = s := rfl

@[simp] theorem turnState_waitSample (c : WaitCond) (b t0 w : Time) (st : Stack) (s : State) :
    turnState (waitSample c b t0 w st s) = s := by
  unfold waitSample; split <;> (try split) <;> simp

@[simp] theorem turnState_stepWait (l : WaitLabel) (c : WaitCond) (b t0 w : Time) (st : Stack) (s : State) :
    turnState (stepWait l c b t0 w st s) = s := by
  cases l <;> simp [stepWait, waitNap]; split <;> simp

@[simp] theorem turnState_waitCadK0 (st : Stack) (s : State) : turnState (waitCadK0 st s) = s := by
  unfold waitCadK0; split <;> simp

@[simp] theorem turnState_sendS0 (a : SendArgs) (st : Stack) (s : State) : turnState (sendS0 a st s) = s := by
  unfold sendS0; split <;> simp

/-- The effects a labelled step can have on the shared state; `st` is the control state that takes the
step. An effect that belongs to one operation only says which; `st` is `[]` for an operation of one step. -/
inductive LeafEffect (st : Stack) (s : State) : State → Prop where
  | same : LeafEffect st s s
  | life (l : Life) (h : (∃ i a r, st = .init i a :: r) ∨ ∃ c r, st = .close c :: r) : LeafEffect st s (s.setLife l)
  | fields (a : InitArgs) (i : InitLabel) (r : Stack) (h : st = .init i a :: r) : LeafEffect st s (initFields a s)
  | sleep : LeafEffect st s (sleepMode s)
  | idle : LeafEffect st s (setIdle s)
  | tx : LeafEffect st s (setTx s)
  | rx : LeafEffect st s (setRx s)
  | cad : LeafEffect st s (enterCad s)
  | busy : LeafEffect st s (s.emit .channelBusy)
  | fifo (a : SendArgs) (frame : Bytes) (r : Stack) (h : st = .send .s5a a frame :: r) :
      LeafEffect st s (radioFifoWriteAt0 frame s)
  | len (n : Byte) : LeafEffect st s (radioWritePayloadLength n s)
  | seq (a : SendToWaitArgs) (k : Nat) (q : Rat) (r : Stack) (h : st = .sendToWait .w1 a k q :: r) :
      LeafEffect st s (s.setSeq (nextId s.lastHeaderId))
  | readFlags : LeafEffect st s (radioReadIrqFlags s).2
  | packet : LeafEffect st s (readPacket s).2
  | clear : LeafEffect st s (radioClearIrqFlags s)
  | metrics : LeafEffect st s (readMetrics s).2
  | drop (e : ErrorKind) : LeafEffect st s (s.emit (.drop e))
  | record (x : IrqLocals) (r : Stack) (h : st = .irq .h2h x :: r) : LeafEffect st s (s.setRecord (packetOf x))
  | deliver (x : IrqLocals) : LeafEffect st s (deliver x s)
  | verdict (x : IrqLocals) (r : Stack) (h : st = .irq .h4a x :: r) : LeafEffect st s (s.setCad (cadVerdict x.f))

theorem setCadM1_effect (by_ st : Stack) (s : State) : LeafEffect by_ s (turnState (setCadM1 st s)) := by
  unfold setCadM1; split
  · simpa using LeafEffect.same
  · exact LeafEffect.idle

theorem stepSetCad_effect (l : SetCadLabel) (w : Time) (st : Stack) (s : State) :
    LeafEffect (.setCad l w :: st) s (turnState (stepSetCad l w st s)) := by
  cases l with
  | m1 => exact setCadM1_effect _ st s
  | m2 => exact LeafEffect.same
  | m3 =>
    simp only [stepSetCad]; split
    · exact LeafEffect.same
    · simpa using LeafEffect.cad

theorem stepWaitCad_effect (l : WaitCadLabel) (t0 w : Time) (st : Stack) (s : State) :
    LeafEffect (.waitCad l t0 w :: st) s (turnState (stepWaitCad l t0 w st s)) := by
  cases l with
  | k0 => simpa [stepWaitCad] using LeafEffect.same
  | k1 => exact setCadM1_effect _ _ s
  | k2 =>
    simp only [stepWaitCad, waitCadK2]
    split
    · exact LeafEffect.same
    · split
      · simpa using LeafEffect.same
      · split
        · simpa using LeafEffect.busy
        · split <;> exact LeafEffect.same
  | k3 => exact LeafEffect.same

theorem stepSend_effect (l : SendLabel) (a : SendArgs) (fr : Bytes) (st : Stack) (s : State) :
    LeafEffect (.send l a fr :: st) s (turnState (stepSend l a fr st s)) := by
  cases l with
  | s0 => simpa [stepSend] using LeafEffect.same
  | s1 => exact LeafEffect.same
  | s2 => exact LeafEffect.idle
  | s3 => simpa [stepSend] using LeafEffect.same
  | s4 => exact LeafEffect.same
  | s5a => exact LeafEffect.fifo a fr st rfl
  | s5b => exact LeafEffect.len _
  | s5c => exact LeafEffect.tx
  | s6 => simpa [stepSend] using LeafEffect.same

theorem stepSendToWait_effect (l : SendToWaitLabel) (a : SendToWaitArgs) (k : Nat) (r : Rat) (st : Stack) (s : State) :
    LeafEffect (.sendToWait l a k r :: st) s (turnState (stepSendToWait l a k r st s)) := by
  cases l with
  | w1 => exact LeafEffect.seq a k r st rfl
  | w2b => exact LeafEffect.rx
  | w0 => simp only [stepSendToWait, sendToWaitW0]; split <;> simpa using LeafEffect.same
  | w2 => simp only [stepSendToWait]; split <;> exact LeafEffect.same
  | w2a => simpa [stepSendToWait] using LeafEffect.same
  | w2c => simp only [stepSendToWait]; split <;> simpa using LeafEffect.same
  | w2d => exact LeafEffect.same
  | w2e => exact LeafEffect.same
  | w3 => simpa [stepSendToWait] using LeafEffect.same

theorem stepSendAck_effect (l : SendAckLabel) (d i : Byte) (by_ st : Stack) (s : State) :
    LeafEffect by_ s (turnState (stepSendAck l d i st s)) := by
  cases l <;> simpa [stepSendAck] using LeafEffect.same

theorem irqParse_effect (x : IrqLocals) (by_ st : Stack) (s : State) : LeafEffect by_ s (turnState (irqParse x st s)) := by
  unfold irqParse; split
  · exact LeafEffect.drop _
  · exact LeafEffect.same

theorem stepIrq_effect (l : IrqLabel) (x : IrqLocals) (st : Stack) (s : State) :
    LeafEffect (.irq l x :: st) s (turnState (stepIrq l x st s)) := by
  cases l with
  | h1 => exact LeafEffect.readFlags
  | h2 => exact LeafEffect.same
  | h2a => exact LeafEffect.packet
  | h2b => exact LeafEffect.clear
  | h2c => exact LeafEffect.metrics
  | h2d => exact irqParse_effect x _ st s
  | h2e =>
    simp only [stepIrq]; split
    · exact LeafEffect.same
    · simpa using LeafEffect.drop _
  | h2f => exact LeafEffect.same
  | h2g =>
    simp only [stepIrq]; split
    · exact stepSendAck_effect _ _ _ _ _ s
    · exact LeafEffect.same
  | h2gRx => exact LeafEffect.rx
  | h2h => exact LeafEffect.record x st rfl
  | h2i => exact LeafEffect.deliver x
  | h3 => exact LeafEffect.idle
  | h4a => exact LeafEffect.verdict x st rfl
  | h4b => exact LeafEffect.idle
  | h5 => simpa [stepIrq] using LeafEffect.clear

/-- Every step of an agent has one of the effects of `LeafEffect`. -/
theorem stepStack_effect (st : Stack) (s : State) : LeafEffect st s (turnState (stepStack st s)) := by
  cases st with
  | nil => exact LeafEffect.same
  | cons f st =>
    cases f with
    | init l a =>
      cases l with
      | y1 =>
        simp only [stepStack, stepInit, initY1]; split
        · exact LeafEffect.life _ (.inl ⟨_, _, _, rfl⟩)
        · simpa using LeafEffect.life _ (.inl ⟨_, _, _, rfl⟩)
      | y2 => exact LeafEffect.fields a _ _ rfl
      | y3 => simpa [stepStack, stepInit] using LeafEffect.life (st := .init .y3 a :: st) _ (.inl ⟨_, _, _, rfl⟩)
    | close l =>
      cases l with
      | x1 => exact LeafEffect.sleep
      | x2 => simpa [stepStack, stepClose] using LeafEffect.life (st := .close .x2 :: st) _ (.inr ⟨_, _, rfl⟩)
    | wait l c b t0 w => simpa [stepStack] using LeafEffect.same
    | setCad l w => exact stepSetCad_effect l w st s
    | waitCad l t0 w => exact stepWaitCad_effect l t0 w st s
    | send l a fr => exact stepSend_effect l a fr st s
    | sendToWait l a k r => exact stepSendToWait_effect l a k r st s
    | sendAck l d i => exact stepSendAck_effect l d i _ st s
    | irq l x => exact stepIrq_effect l x st s

end Sys2Proof.Machine
end

