-- ==== Sys2Proof/Laws/Step.lean ====
section
/-! SUPPORT. What one step of the machine can do, said once: the inversion of the gates, of exec and of step. -/

namespace Sys2Proof.Machine

/-! ## Gates -/

theorem guarded_next {g : Option Refusal} {t u : State} (h : guarded g t = .next u) : g = none ∧ u = t := by
  cases g with
  | none => simpa [guarded, eq_comm] using h
  | some r => simp [guarded] at h

@[simp] theorem guarded_none (t : State) : guarded none t = .next t := rfl

@[simp] theorem guarded_some (r : Refusal) (t : State) : guarded (some r) t = .refused r := rfl

/-- The gate is open exactly for an idle APP of a live instance (R17). -/
theorem gate_eq_none {s : State} : gate s = none ↔ s.app = .idle ∧ s.life = .live := by
  unfold gate; split
  · simp_all
  · split <;> simp_all

/-- INIT is accepted exactly where no instance is and APP is idle (R200). -/
theorem initGate_eq_none {s : State} : initGate s = none ↔ s.app = .idle ∧ s.life = .absent := by
  unfold initGate; split
  · simp_all
  · split <;> simp_all

/-- CLOSE is accepted exactly for an idle APP of a live instance without a live invocation (R205). -/
theorem closeGate_eq_none {s : State} : closeGate s = none ↔ s.app = .idle ∧ s.life = .live ∧ s.isrs = [] := by
  unfold closeGate; split
  · rename_i r h
    constructor
    · simp
    · rintro ⟨h1, h2, -⟩
      rw [gate_eq_none.mpr ⟨h1, h2⟩] at h; cases h
  · rename_i h
    have := gate_eq_none.mp h
    split <;> simp_all

theorem gate_of_ready {s : State} (ha : s.app = .idle) (hl : s.life = .live) : gate s = none :=
  gate_eq_none.mpr ⟨ha, hl⟩

theorem codecGate_eq_none {s : State} :
    codecGate s = none ↔ (s.app = .idle ∧ s.life = .live) ∧ s.cfg.codec.isSome := by
  unfold codecGate
  split
  · rename_i r h
    constructor
    · simp
    · rintro ⟨h1, -⟩
      rw [gate_eq_none.mpr h1] at h; cases h
  · rename_i h
    have := gate_eq_none.mp h
    split <;> simp_all

/-! ## exec -/

/-- Everything an operation's first step can be. -/
inductive ExecEffect (s : State) : State → Prop where
  /-- An operation of several steps begins on APP. -/
  | start (f : Frame) (ready : s.app = .idle ∧ s.life = .live) (isApp : isAppFrame f = true) :
      ExecEffect s (settleApp (stepStack [f] s))
  /-- INIT begins. -/
  | construct (a : InitArgs) (ready : s.app = .idle ∧ s.life = .absent) :
      ExecEffect s (settleApp (stepStack [.init .y1 a] s))
  /-- CLOSE begins. -/
  | close (ready : s.app = .idle ∧ s.life = .live ∧ s.isrs = []) :
      ExecEffect s (settleApp (stepStack [.close .x1] s))
  /-- An operation of one step that has one of the labelled effects. -/
  | whole (v : Value) (u : State) (ready : s.app = .idle ∧ s.life = .live) (effect : LeafEffect [] s u)
      (notSeq : u.lastHeaderId = s.lastHeaderId) (notInit : u.cfg = s.cfg ∧ u.thisAddress = s.thisAddress ∧ u.life = s.life)
      (notHandler : u.lastReceivedPayload = s.lastReceivedPayload ∧ u.cadDetected = s.cadDetected) :
      ExecEffect s (answer v u)
  /-- SEQ.NEXT. -/
  | seqNext (ready : s.app = .idle ∧ s.life = .live) :
      ExecEffect s (answer (.byte (nextId s.lastHeaderId)) (s.setSeq (nextId s.lastHeaderId)))
  /-- ONRECEIVE. -/
  | callback (h : Handle) (ready : s.app = .idle ∧ s.life = .live) : ExecEffect s (answer .unit (s.setCallback h))
  /-- An edge of the interrupt line. -/
  | edge : ExecEffect s (takeEdge s)
  /-- A packet in the handler's hands. -/
  | packet (bytes : Bytes) : ExecEffect s (handlePacket bytes s)

/-- If `exec` answers a next state, it is one of the states of `ExecEffect`; only SEQ.NEXT counts the id. -/
theorem exec_effect {i : Instr} {s t : State} (h : exec i s = .next t) : ExecEffect s t := by
  cases i with
  | init a =>
    obtain ⟨g, rfl⟩ := guarded_next h
    exact .construct a (initGate_eq_none.mp g)
  | onReceive c =>
    obtain ⟨g, rfl⟩ := guarded_next h
    exact .callback c (gate_eq_none.mp g)
  | send p d i f =>
    obtain ⟨g, rfl⟩ := guarded_next h
    exact .start _ (gate_eq_none.mp g) rfl
  | sendToWait p d f r =>
    obtain ⟨g, rfl⟩ := guarded_next h
    exact .start _ (gate_eq_none.mp g) rfl
  | close =>
    obtain ⟨g, rfl⟩ := guarded_next h
    exact .close (closeGate_eq_none.mp g)
  | setIdle =>
    obtain ⟨g, rfl⟩ := guarded_next h
    exact .whole _ _ (gate_eq_none.mp g) .idle (by simp) (by simp) (by simp)
  | setTx =>
    obtain ⟨g, rfl⟩ := guarded_next h
    exact .whole _ _ (gate_eq_none.mp g) .tx (by simp) (by simp) (by simp)
  | setRx =>
    obtain ⟨g, rfl⟩ := guarded_next h
    exact .whole _ _ (gate_eq_none.mp g) .rx (by simp) (by simp) (by simp)
  | setCad =>
    obtain ⟨g, rfl⟩ := guarded_next h
    exact .start _ (gate_eq_none.mp g) rfl
  | sleep =>
    obtain ⟨g, rfl⟩ := guarded_next h
    exact .whole _ _ (gate_eq_none.mp g) .sleep (by simp) (by simp) (by simp)
  | sendAck d i =>
    obtain ⟨g, rfl⟩ := guarded_next h
    exact .start _ (gate_eq_none.mp g) rfl
  | waitPacketSent =>
    obtain ⟨g, rfl⟩ := guarded_next h
    exact .start _ (gate_eq_none.mp g) rfl
  | waitCad =>
    obtain ⟨g, rfl⟩ := guarded_next h
    exact .start _ (gate_eq_none.mp g) rfl
  | hdrBuild a b c d e =>
    obtain ⟨g, rfl⟩ := guarded_next h
    exact .whole _ _ (gate_eq_none.mp g) .same rfl ⟨rfl, rfl, rfl⟩ ⟨rfl, rfl⟩
  | hdrParse p =>
    obtain ⟨g, rfl⟩ := guarded_next h
    exact .whole _ _ (gate_eq_none.mp g) .same rfl ⟨rfl, rfl, rfl⟩ ⟨rfl, rfl⟩
  | addrAccept d =>
    obtain ⟨g, rfl⟩ := guarded_next h
    exact .whole _ _ (gate_eq_none.mp g) .same rfl ⟨rfl, rfl, rfl⟩ ⟨rfl, rfl⟩
  | flagIsAck f =>
    obtain ⟨g, rfl⟩ := guarded_next h
    exact .whole _ _ (gate_eq_none.mp g) .same rfl ⟨rfl, rfl, rfl⟩ ⟨rfl, rfl⟩
  | seqNext =>
    obtain ⟨g, rfl⟩ := guarded_next h
    exact .seqNext (gate_eq_none.mp g)
  | ackMatch =>
    obtain ⟨g, rfl⟩ := guarded_next h
    exact .whole _ _ (gate_eq_none.mp g) .same rfl ⟨rfl, rfl, rfl⟩ ⟨rfl, rfl⟩
  | encWrap p =>
    obtain ⟨g, rfl⟩ := guarded_next h
    exact .whole _ _ (codecGate_eq_none.mp g).1 .same rfl ⟨rfl, rfl, rfl⟩ ⟨rfl, rfl⟩
  | encUnwrap b =>
    obtain ⟨g, rfl⟩ := guarded_next h
    exact .whole _ _ (codecGate_eq_none.mp g).1 .same rfl ⟨rfl, rfl, rfl⟩ ⟨rfl, rfl⟩
  | sigMetrics a b =>
    obtain ⟨g, rfl⟩ := guarded_next h
    exact .whole _ _ (gate_eq_none.mp g) .same rfl ⟨rfl, rfl, rfl⟩ ⟨rfl, rfl⟩
  | irq => cases h; exact .edge
  | frameData a b c d e => cases h; exact .packet _
  | frameAck a b c d e => cases h; exact .packet _

/-! ## A received packet -/

theorem receives_eq_true {s : State} :
    receives s = true ↔
      s.life = .live ∧ s.mode = .rxContinuous ∧ s.radio.hwMode = .rxContinuous ∧
        (s.par.isrReentrant = true ∨ s.isrs = []) := by
  simp [receives, and_assoc]

theorem handlePacket_unreceived {bytes : Bytes} {s : State} (h : receives s = false) : handlePacket bytes s = s := by
  simp [handlePacket, h]

/-- Outside reception a packet changes nothing (R64, R206). -/
theorem handlePacket_outside {bytes : Bytes} {s : State} (h : s.mode ≠ .rxContinuous ∨ s.radio.hwMode ≠ .rxContinuous) :
    handlePacket bytes s = s := by
  apply handlePacket_unreceived
  rcases h with h | h <;> simp [receives, h]

/-- All a packet can do: nothing where it is not received; else a drop, or one invocation more (R91, R218). -/
theorem handlePacket_cases (bytes : Bytes) (s : State) :
    (receives s = false ∧ handlePacket bytes s = s) ∨
    (receives s = true ∧
      match irqParse (packetLocals bytes s) [] s with
      | .go st t => handlePacket bytes s = t.setIsrs (t.isrs ++ [st])
      | .done _ t => handlePacket bytes s = t) := by
  cases h : receives s with
  | false => exact .inl ⟨rfl, handlePacket_unreceived h⟩
  | true => right; simp only [handlePacket, h, if_true, true_and]; split <;> simp_all

/-! ## Fetching -/

/-- What arrives as an operation is what the decoder reads, on its own channel. -/
theorem fetch_eq_op {ch : Channel} {bytes : Bytes} {i : Instr} (h : fetch ch bytes = .op i) :
    decode ch bytes = .ok i ∧ i.format.channel = ch := by
  unfold fetch at h
  split at h
  · cases h
  · split at h
    · cases h
    · cases h
    · cases h
    · split at h
      · cases h; exact ⟨by assumption, by assumption⟩
      · cases h

/-- A packet of more than 255 bytes is not received (R64, R80). -/
theorem fetch_longFrame {bytes : Bytes} (h : 255 < bytes.length) : fetch .air bytes = .unreceived := by
  match bytes, h with
  | dst :: src :: ident :: flags :: body, h =>
    have hb : 251 < body.length := by simp only [List.length_cons] at h; omega
    simp [fetch, decode, decodeFrame, hb]

/-! ## step -/

/-- Everything a step of the machine can be. -/
inductive StepEffect (s : State) : State → Prop where
  /-- The script is at its end. -/
  | stay (h : s.script = []) : StepEffect s s
  /-- An operation arrives and begins. -/
  | arrive (ch : Channel) (o : Oracle) (bytes : Bytes) (rest : List Move) (i : Instr) (t : State)
      (h : s.script = .present ch o bytes :: rest) (f : fetch ch bytes = .op i)
      (e : exec i ((s.setScript rest).setOracle o) = .next t) : StepEffect s t
  /-- A packet too short to be a frame arrives. -/
  | short (ch : Channel) (o : Oracle) (bytes packet : Bytes) (rest : List Move)
      (h : s.script = .present ch o bytes :: rest) (f : fetch ch bytes = .shortPacket packet) :
      StepEffect s (handlePacket packet ((s.setScript rest).setOracle o))
  /-- A packet too long to be received. -/
  | unreceived (ch : Channel) (o : Oracle) (bytes : Bytes) (rest : List Move)
      (h : s.script = .present ch o bytes :: rest) (f : fetch ch bytes = .unreceived) :
      StepEffect s ((s.setScript rest).setOracle o)
  | app (o : Oracle) (rest : List Move) (h : s.script = .app o :: rest) :
      StepEffect s (appStep ((s.setScript rest).setOracle o))
  /-- A handler's turn at a place where none is. -/
  | noIsr (k : Nat) (o : Oracle) (rest : List Move) (h : s.script = .isr k o :: rest) (n : s.isrs[k]? = none) :
      StepEffect s ((s.setScript rest).setOracle o)
  | isr (k : Nat) (o : Oracle) (rest : List Move) (st : Stack) (h : s.script = .isr k o :: rest)
      (n : s.isrs[k]? = some st) (open_ : s.life ≠ .closed) :
      StepEffect s (settleIsr k (stepStack st ((s.setScript rest).setOracle o)))
  | radio (e : RadioEvent) (rest : List Move) (h : s.script = .radio e :: rest) :
      StepEffect s (radioStep e (s.setScript rest))
  | elapse (d : Time) (rest : List Move) (h : s.script = .elapse d :: rest) :
      StepEffect s ((s.setScript rest).setClock (s.clock + max 0 d))
  | boot (ok : Bool) (rest : List Move) (h : s.script = .boot ok :: rest) : StepEffect s (boot ok (s.setScript rest))

/-- If `step` answers a next state, it is one of the states of `StepEffect`. -/
theorem step_effect {s t : State} (h : step s = .next t) : StepEffect s t := by
  unfold step at h
  split at h
  · rename_i hs; cases h; exact .stay hs
  · rename_i ch o bytes rest hs
    split at h
    · rename_i i hf; exact .arrive ch o bytes rest i t hs hf h
    · rename_i p hf; cases h; exact .short ch o bytes p rest hs hf
    · rename_i hf; cases h; exact .unreceived ch o bytes rest hs hf
    · cases h
  · rename_i m rest hm hs
    cases m with
    | present ch o bytes => exact (hm ch o bytes rfl).elim
    | app o => cases h; exact .app o rest hs
    | isr k o =>
      simp only [runMove, isrStep] at h
      split at h
      · rename_i hn; cases h; exact .noIsr k o rest hs (by simpa using hn)
      · rename_i st hn
        split at h
        · cases h
        · rename_i hl; cases h; exact .isr k o rest st hs (by simpa using hn) (by simpa using hl)
    | radio e => cases h; exact .radio e rest hs
    | elapse d => cases h; exact .elapse d rest hs
    | boot ok => cases h; exact .boot ok rest hs

end Sys2Proof.Machine
end

