-- ==== Sys2Proof/Laws/Kinds.lean ====
section
/-! SUPPORT. An agent keeps running operations of its own kind, said once: a step of a control state whose every operation is APP's (or the handler's) leaves such a control state and the same life. -/

namespace Sys2Proof.Machine

/-- Every operation a turn goes on with has the property; a turn that ended has none. -/
def turnStackAll (p : Frame → Bool) : Turn → Prop
  | .go st _ => st.all p = true
  | .done _ _ => True

/-- A property of running operations that an agent's steps keep: it holds of every operation that can be
called in place, does not depend on a label, and fails for construction and closing. -/
structure KeepsKind (p : Frame → Bool) : Prop where
  wait : ∀ a b c d e, p (.wait a b c d e) = true
  setCad : ∀ a b, p (.setCad a b) = true
  waitCad : ∀ a b c, p (.waitCad a b c) = true
  send : ∀ a b c, p (.send a b c) = true
  stw : ∀ a b c d a' c' d', p (.sendToWait a b c d) = p (.sendToWait a' b c' d')
  sendAck : ∀ a b c, p (.sendAck a b c) = true
  irq : ∀ a b a' b', p (.irq a b) = p (.irq a' b')
  init : ∀ a b, p (.init a b) = false
  close : ∀ a, p (.close a) = false

theorem sendToWait_kind {p : Frame → Bool} (hp : KeepsKind p) {a b c d} (a' c' d') (h : p (.sendToWait a b c d) = true) :
    p (.sendToWait a' b c' d') = true := by
  rw [← hp.stw a b c d]; exact h

theorem irq_kind {p : Frame → Bool} (hp : KeepsKind p) {a b} (a' b') (h : p (.irq a b) = true) :
    p (.irq a' b') = true := by
  rw [← hp.irq a b]; exact h

/-- Handing a result to the caller keeps the kind. -/
theorem resume_kind {p : Frame → Bool} (hp : KeepsKind p) (v : Value) (st : Stack) (s : State) (h : st.all p = true) :
    turnStackAll p (resume v st s) := by
  induction st generalizing v with
  | nil => trivial
  | cons f st ih =>
    simp only [List.all_cons, Bool.and_eq_true] at h
    obtain ⟨h1, h2⟩ := h
    unfold resume
    split
    case h_1 heq => cases heq
    case h_6 heq =>
      cases heq
      split
      · exact ih _ h2
      · simp only [turnStackAll, List.all_cons, h2, Bool.and_true]; exact sendToWait_kind hp _ _ _ h1
    case h_8 heq => cases heq; exact ih _ h2
    all_goals
      rename_i heq; cases heq
      simp only [turnStackAll, List.all_cons, h2, Bool.and_true]
      first
      | exact h1
      | exact hp.send _ _ _
      | exact hp.waitCad _ _ _
      | exact hp.sendAck _ _ _
      | exact sendToWait_kind hp _ _ _ h1
      | exact irq_kind hp _ _ h1

/-- A step keeps the kind. -/
theorem stepStack_kind {p : Frame → Bool} (hp : KeepsKind p) (st : Stack) (s : State) (h : st.all p = true) :
    turnStackAll p (stepStack st s) := by
  cases st with
  | nil => trivial
  | cons f st =>
    simp only [List.all_cons, Bool.and_eq_true] at h
    obtain ⟨h1, h2⟩ := h
    have hr := fun v s => resume_kind hp v st s h2
    have hm1 : ∀ st s, st.all p = true → turnStackAll p (setCadM1 st s) := by
      intro st s h; unfold setCadM1; split
      · exact resume_kind hp _ _ _ h
      · simp only [turnStackAll, List.all_cons, h, hp.setCad]; rfl
    have hk0 : ∀ st s, st.all p = true → turnStackAll p (waitCadK0 st s) := by
      intro st s h; unfold waitCadK0; split
      · exact resume_kind hp _ _ _ h
      · simp only [turnStackAll, List.all_cons, h, hp.waitCad]; rfl
    have hs0 : ∀ a st s, st.all p = true → turnStackAll p (sendS0 a st s) := by
      intro a st s h; unfold sendS0; split
      · exact resume_kind hp _ _ _ h
      · simp only [turnStackAll, List.all_cons, h, hp.send]; rfl
    cases f with
    | init l a => rw [hp.init] at h1; cases h1
    | close l => rw [hp.close] at h1; cases h1
    | wait l c b t0 w =>
      cases l <;> simp only [stepStack, stepWait, waitStart, waitNap, waitSample]
      · simp [turnStackAll, h2, hp.wait]
      · split
        · simp [turnStackAll, h2, hp.wait]
        · split
          · split <;> exact hr _ _
          · split
            · exact hr _ _
            · simp [turnStackAll, h2, hp.wait]
      · simp [turnStackAll, h2, hp.wait]
    | setCad l w =>
      cases l <;> simp only [stepStack, stepSetCad]
      · exact hm1 _ _ h2
      · simp [turnStackAll, h2, hp.setCad]
      · split
        · simp [turnStackAll, h2, hp.setCad]
        · exact hr _ _
    | waitCad l t0 w =>
      cases l <;> simp only [stepStack, stepWaitCad, waitCadK2]
      · exact hk0 _ _ h2
      · exact hm1 _ _ (by simp [h2, hp.waitCad])
      · split
        · simp [turnStackAll, h2, hp.waitCad]
        · split
          · exact hr _ _
          · split
            · exact hr _ _
            · split <;> simp [turnStackAll, h2, hp.waitCad]
      · simp [turnStackAll, h2, hp.waitCad]
    | send l a fr =>
      cases l <;> simp only [stepStack, stepSend, waitStart]
      case s0 => exact hs0 _ _ _ h2
      case s3 => exact hk0 _ _ (by simp [h2, hp.send])
      case s6 => exact hr _ _
      all_goals simp [turnStackAll, h2, hp.send, hp.wait]
    | sendToWait l a k r =>
      have hw := fun l' k' r' => sendToWait_kind hp l' k' r' h1
      cases l <;> simp only [stepStack, stepSendToWait, waitStart, sendToWaitW0]
      case w2a => exact hs0 _ _ _ (by simp [h2, hw])
      case w3 => exact hr _ _
      case w0 => split; exact hr _ _; simp [turnStackAll, h2, hw]
      case w2 => split <;> simp [turnStackAll, h2, hw]
      case w2c => split; exact hr _ _; simp [turnStackAll, h2, hw]
      all_goals simp [turnStackAll, h2, hp.wait, hw]
    | sendAck l d i =>
      cases l <;> simp only [stepStack, stepSendAck, waitStart]
      · exact hs0 _ _ _ (by simp [h2, hp.sendAck])
      · simp [turnStackAll, h2, hp.wait, hp.sendAck]
    | irq l x =>
      have hw := fun l' x' => irq_kind hp l' x' h1
      cases l <;> simp only [stepStack, stepIrq, irqParse, stepSendAck]
      case h2d => split <;> simp [turnStackAll, h2, hw]
      case h2e => split; simp [turnStackAll, h2, hw]; exact hr _ _
      case h2g =>
        split
        · exact hs0 _ _ _ (by simp [h2, hw, hp.sendAck])
        · simp [turnStackAll, h2, hw]
      case h5 => exact hr _ _
      all_goals simp [turnStackAll, h2, hw]

theorem isAppFrame_kind : KeepsKind isAppFrame := by constructor <;> intros <;> rfl

theorem isIsrFrame_kind : KeepsKind isIsrFrame := by constructor <;> intros <;> rfl

/-! ## Every live invocation keeps running handler operations -/

theorem isrsFit_of_isrs {s t : State} (h : t.isrs = s.isrs) (hf : isrsFit s = true) : isrsFit t = true := by
  unfold isrsFit at *; rw [h]; exact hf

theorem takeEdge_isrsFit {s : State} (h : isrsFit s = true) : isrsFit (takeEdge s) = true := by
  unfold takeEdge; split
  · split
    · simp only [isrsFit] at *; simp [State.setIsrs, List.all_append, h, newInvocation, isIsrFrame]
    · exact h
  · exact h

theorem radioMapIrq_isrsFit {src} {s : State} (h : isrsFit s = true) : isrsFit (radioMapIrq src s) = true := by
  unfold radioMapIrq; dsimp only; split
  · exact takeEdge_isrsFit h
  · exact h

theorem radioWriteMode_isrsFit {src} {s : State} (h : isrsFit s = true) : isrsFit (radioWriteMode src s) = true := by
  unfold radioWriteMode; dsimp only; split <;> exact h

theorem raiseFlag_isrsFit {src} {s : State} (h : isrsFit s = true) : isrsFit (raiseFlag src s) = true := by
  unfold raiseFlag; dsimp only; split
  · exact takeEdge_isrsFit h
  · exact h

/-- Every labelled effect keeps the invocations' kind. -/
theorem LeafEffect_isrsFit {st} {s t : State} (e : LeafEffect st s t) (h : isrsFit s = true) : isrsFit t = true := by
  have viaMap : ∀ src (u v : State), isrsFit u = true → v.isrs = (radioMapIrq src u).isrs → isrsFit v = true :=
    fun _ _ _ hu hv => isrsFit_of_isrs hv (radioMapIrq_isrsFit hu)
  cases e with
  | tx =>
    unfold setTx; split
    · exact h
    · exact viaMap .txDone (radioWriteMode .tx s) _ (radioWriteMode_isrsFit h) rfl
  | rx =>
    unfold setRx; split
    · exact h
    · exact viaMap .rxDone (radioWriteMode .rxContinuous s) _ (radioWriteMode_isrsFit h) rfl
  | cad => exact viaMap .cadDone (radioWriteMode .cad s) _ (radioWriteMode_isrsFit h) rfl
  | _ => exact isrsFit_of_isrs (by first | simp | rfl) h

theorem returnFromIrq_isrsFit {k} {s : State} (h : isrsFit s = true) : isrsFit (returnFromIrq k s) = true := by
  have h' : ∀ x ∈ s.isrs.eraseIdx k, x.all isIsrFrame = true := by
    intro x hx
    exact List.all_eq_true.mp h x (List.mem_of_mem_eraseIdx hx)
  unfold returnFromIrq; dsimp only; split
  · simp only [isrsFit, List.all_eq_true]; intro x hx
    simp [State.setIsrs, State.setLatched] at hx
    rcases hx with hx | rfl
    · simpa using h' x hx
    · simp [newInvocation, isIsrFrame]
  · simp only [isrsFit, List.all_eq_true]; intro x hx; simpa using h' x hx

theorem settleIsr_isrsFit {k st} {s : State} (h : isrsFit s = true) (hk : s.isrs[k]? = some st) :
    isrsFit (settleIsr k (stepStack st s)) = true := by
  have hst : st.all isIsrFrame = true := List.all_eq_true.mp h st (List.mem_of_getElem? hk)
  have h1 := stepStack_kind isIsrFrame_kind st s hst
  have h2 := LeafEffect_isrsFit (stepStack_effect st s) h
  revert h1 h2
  cases stepStack st s with
  | go st' s' =>
    intro h1 h2
    simp only [turnStackAll] at h1
    simp only [turnState_go] at h2
    simp only [settleIsr, isrsFit, List.all_eq_true]
    intro x hx
    simp [State.setIsrs] at hx
    rcases List.mem_or_eq_of_mem_set hx with hx | rfl
    · have := List.all_eq_true.mp h2 x hx; simpa using this
    · simpa using h1
  | done v s' => intro _ h2; exact returnFromIrq_isrsFit h2

/-- A step of a host command or of the handler leaves the instance's life. -/
theorem stepStack_life {p : Frame → Bool} (hp : KeepsKind p) (st : Stack) (s : State) (h : st.all p = true) :
    (turnState (stepStack st s)).life = s.life := by
  cases st with
  | nil => rfl
  | cons f st =>
    simp only [List.all_cons, Bool.and_eq_true] at h
    cases f with
    | init l a => rw [hp.init] at h; simp at h
    | close l => rw [hp.close] at h; simp at h
    | wait l c b t0 w => simp [stepStack]
    | setCad l w =>
      cases l <;> simp only [stepStack, stepSetCad, setCadM1] <;> (try split) <;> simp
    | waitCad l t0 w =>
      cases l <;> simp only [stepStack, stepWaitCad, waitCadK2, setCadM1] <;> (repeat' split) <;> simp
    | send l a fr => cases l <;> simp [stepStack, stepSend]
    | sendToWait l a k r => cases l <;> simp only [stepStack, stepSendToWait, sendToWaitW0] <;> (repeat' split) <;> simp
    | sendAck l d i => cases l <;> simp [stepStack, stepSendAck]
    | irq l x => cases l <;> simp only [stepStack, stepIrq, irqParse, stepSendAck] <;> (repeat' split) <;>
        simp [readPacket, readMetrics, radioReadRxLength, radioSeekRxStart, radioFifoRead, radioReadSnrRaw, radioReadRssiRaw, radioReadIrqFlags]

end Sys2Proof.Machine
end

