-- ==== Sys2Proof/Laws/PerInstr.lean ====
section
/-! SUPPORT. Statements made per instruction: the fixed bits of an instruction's row in spec/opcode_table.json are the bits its encoding has. -/

namespace Sys2Proof.Laws.Opcode

/-- The fixed bits of the row: the code byte of a command record (R95), or bit 0 of a frame's flag byte (R84). -/
def fixedBits : Instr → Bytes → Prop
  | .init _, bs => bs.head? = some 0x01
  | .onReceive _, bs => bs.head? = some 0x02
  | .send _ _ _ _, bs => bs.head? = some 0x03
  | .sendToWait _ _ _ _, bs => bs.head? = some 0x04
  | .close, bs => bs.head? = some 0x05
  | .setIdle, bs => bs.head? = some 0x10
  | .setTx, bs => bs.head? = some 0x11
  | .setRx, bs => bs.head? = some 0x12
  | .setCad, bs => bs.head? = some 0x13
  | .sleep, bs => bs.head? = some 0x14
  | .sendAck _ _, bs => bs.head? = some 0x20
  | .waitPacketSent, bs => bs.head? = some 0x21
  | .waitCad, bs => bs.head? = some 0x22
  | .hdrBuild _ _ _ _ _, bs => bs.head? = some 0x40
  | .hdrParse _, bs => bs.head? = some 0x41
  | .addrAccept _, bs => bs.head? = some 0x42
  | .flagIsAck _, bs => bs.head? = some 0x43
  | .seqNext, bs => bs.head? = some 0x44
  | .ackMatch, bs => bs.head? = some 0x45
  | .encWrap _, bs => bs.head? = some 0x48
  | .encUnwrap _, bs => bs.head? = some 0x49
  | .sigMetrics _ _, bs => bs.head? = some 0x4A
  | .irq, bs => bs.head? = some 0x80
  | .frameData _ _ _ _ _, bs => (bs[3]?).map (·.getLsbD 0) = some false
  | .frameAck _ _ _ _ _, bs => (bs[3]?).map (·.getLsbD 0) = some true

/-- The encoding of `i` has the fixed bits of `i`'s row. -/
def Statement (i : Instr) : Prop := fixedBits i (encode i)

theorem init (a : InitArgs) : Statement (.init a) := rfl

theorem onReceive (h : Handle) : Statement (.onReceive h) := rfl

theorem send (p : Bytes) (d i f : Byte) : Statement (.send p d i f) := rfl

theorem sendToWait (p : Bytes) (d f : Byte) (r : Nat) : Statement (.sendToWait p d f r) := rfl

theorem close : Statement (.close) := rfl

theorem setIdle : Statement (.setIdle) := rfl

theorem setTx : Statement (.setTx) := rfl

theorem setRx : Statement (.setRx) := rfl

theorem setCad : Statement (.setCad) := rfl

theorem sleep : Statement (.sleep) := rfl

theorem sendAck (d i : Byte) : Statement (.sendAck d i) := rfl

theorem waitPacketSent : Statement (.waitPacketSent) := rfl

theorem waitCad : Statement (.waitCad) := rfl

theorem hdrBuild (t f i g : Byte) (b : Bytes) : Statement (.hdrBuild t f i g b) := rfl

theorem hdrParse (p : Bytes) : Statement (.hdrParse p) := rfl

theorem addrAccept (t : Byte) : Statement (.addrAccept t) := rfl

theorem flagIsAck (f : Byte) : Statement (.flagIsAck f) := rfl

theorem seqNext : Statement (.seqNext) := rfl

theorem ackMatch : Statement (.ackMatch) := rfl

theorem encWrap (p : Bytes) : Statement (.encWrap p) := rfl

theorem encUnwrap (b : Bytes) : Statement (.encUnwrap b) := rfl

theorem sigMetrics (s q : Byte) : Statement (.sigMetrics s q) := rfl

theorem irq : Statement (.irq) := rfl

theorem frameData (t f i : Byte) (r : BitVec 7) (b : Bytes) : Statement (.frameData t f i r b) :=
  congrArg some (flagByte_ack r false)

theorem frameAck (t f i : Byte) (r : BitVec 7) (b : Bytes) : Statement (.frameAck t f i r b) :=
  congrArg some (flagByte_ack r true)

end Sys2Proof.Laws.Opcode
end

