-- ==== Sys2Proof/Laws/Run.lean ====
section
/-! SUPPORT. Running a script move by move: one lemma per kind of move, so that a run is rewritten and never unfolded. -/

namespace Sys2Proof.Machine

theorem run_next (M : Host.Core) (n : Nat) {s t : M.State} (h : M.step s = .next t) : M.run (n + 1) s = M.run n t := by
  simp only [Host.Core.run, h]

theorem run_refused (M : Host.Core) (n : Nat) {s : M.State} {r : M.Refusal} (h : M.step s = .refused r) :
    M.run (n + 1) s = .refused r := by
  simp only [Host.Core.run, h]

@[simp] theorem runSteps_zero (s : State) : runSteps 0 s = .next s := rfl

theorem runSteps_of_step {n : Nat} {s t : State} (h : step s = .next t) : runSteps (n + 1) s = runSteps n t :=
  run_next Sys2Proof.core n h

theorem runSteps_app {n : Nat} {s : State} {o : Oracle} {rest : List Move} (h : s.script = .app o :: rest) :
    runSteps (n + 1) s = runSteps n (appStep ((s.setScript rest).setOracle o)) :=
  runSteps_of_step (by simp [step, h, runMove])

/-- A step of a busy APP. -/
theorem runSteps_busy {n : Nat} {s : State} {o : Oracle} {rest : List Move} {st : Stack}
    (h : s.script = .app o :: rest) (ha : s.app = .busy st) :
    runSteps (n + 1) s = runSteps n (settleApp (stepStack st ((s.setScript rest).setOracle o))) := by
  rw [runSteps_app h]; simp [appStep, ha]

theorem runSteps_isr {n : Nat} {s : State} {k : Nat} {o : Oracle} {rest : List Move} {st : Stack}
    (h : s.script = .isr k o :: rest) (hk : s.isrs[k]? = some st) (hl : s.life ≠ .closed) :
    runSteps (n + 1) s = runSteps n (settleIsr k (stepStack st ((s.setScript rest).setOracle o))) :=
  runSteps_of_step (by simp [step, h, runMove, isrStep, hk, hl])

theorem runSteps_radio {n : Nat} {s : State} {e : RadioEvent} {rest : List Move} (h : s.script = .radio e :: rest) :
    runSteps (n + 1) s = runSteps n (radioStep e (s.setScript rest)) :=
  runSteps_of_step (by simp [step, h, runMove])

theorem runSteps_elapse {n : Nat} {s : State} {d : Time} {rest : List Move} (h : s.script = .elapse d :: rest) :
    runSteps (n + 1) s = runSteps n ((s.setScript rest).setClock (s.clock + max 0 d)) :=
  runSteps_of_step (by simp [step, h, runMove])

theorem runSteps_add (m n : Nat) (s : State) :
    runSteps (m + n) s = match runSteps m s with
      | .next t => runSteps n t
      | .fault r => .fault r
      | .refused r => .refused r := by
  induction m generalizing s with
  | zero => simp
  | succ m ih =>
    rw [Nat.add_right_comm]
    cases h : step s with
    | next t => rw [runSteps_of_step h, runSteps_of_step h]; exact ih t
    | fault r => cases r
    | refused r =>
      have e : ∀ k, runSteps (k + 1) s = .refused r := fun k => run_refused Sys2Proof.core k h
      rw [e, e]

end Sys2Proof.Machine
end

