-- ==== Sys2Proof/Tests/Slice0.lean ====
section
/-! SUPPORT. Small tests: operations that are ill-formed, records and packets written out from the encodings of 30_encoding.md, the vectors of 95_test_vectors.md, and for every statement that has hypotheses a state that meets them. Expected values come from the spec or from hand calculation. -/

set_option Elab.async false

namespace Sys2Proof.Tests

open Sys2Proof.Machine

/-! ## A bench state: numbers in place of the OPEN parameters -/

/-- Parameters of R7 with 2 s for RETRY_TIMEOUT, 1/100 s for CAD_SETTLE_TIME and the offsets -164 and -157 of 93_implementation_defined.md G3. -/
def benchPar : Params where
  waitPacketSentTimeout := ⟨1, 2, by decide, by decide⟩
  cadTimeout := 0
  retryTimeout := 2
  pollInterval := ⟨1, 10, by decide, by decide⟩
  cadSettleTime := ⟨1, 100, by decide, by decide⟩
  rssiOffsetLow := -164
  rssiOffsetHigh := -157
  snrSlope := ⟨1, 4, by decide, by decide⟩
  snrConst := 0
  snrSigned := true
  rssiSlope := 1
  rssiConst := 0
  isrReentrant := true
  fifoShared := false

/-- The state of INIT(ch, pin, 0x01) with those parameters (V45-1). -/
def bench : State :=
  { State.reset with par := benchPar, cfg := Cfg.ofInit benchPar InitArgs.reset }

/-- The bench with a codec. -/
def benchCodec : State := { bench with cfg := { bench.cfg with codec := some 3 } }

/-- The bench in a mode, the radio and the mapping as that mode has them (R136). -/
def inMode (m : Mode) (src : Option IrqSource) : State :=
  { bench with mode := m, radio := { bench.radio with hwMode := hwOf m, irqMap := src } }

/-- The bench in RX_CONTINUOUS with a packet received. -/
def received (p : Bytes) : State :=
  { inMode .rxContinuous (some .rxDone) with
    radio := { (inMode .rxContinuous (some .rxDone)).radio with rxPkt := p, flags := ⟨true, false, false, false⟩ } }

/-- The record of V40-18. -/
def ackRecord : ParsedPacket := ⟨[0x21], 0x01, 0x02, 0x05, 0x01, 0, 0⟩

/-- The next state of an outcome, if it is one. -/
def nextOf : Host.Outcome State Fault Refusal → Option State
  | .next s => some s
  | .fault _ => none
  | .refused _ => none

/-- The refusal of an outcome, if it is one. -/
def refusalOf : Host.Outcome State Fault Refusal → Option Refusal
  | .next _ => none
  | .fault _ => none
  | .refused r => some r

/-- The labels of an operation's first step from a state. -/
def labelsOf (i : Instr) (s : State) : Option (List Label) := (nextOf (exec i s)).map State.obs

/-- The codec of 95_test_vectors.md: exclusive-or with 0xAA. -/
def xorAA (bs : Bytes) : Bytes := bs.map (· ^^^ 0xAA)

/-! ## Ill-formed operations are refused (one per check of WellFormed) -/

theorem test_illformed_init : wellFormed (.init { InitArgs.reset with frequencyMHz := -1 }) = false := by decide

theorem test_illformed_frame :
    wellFormed (.frameData 1 2 5 0 (zeros 252)) = false ∧ wellFormed (.frameAck 1 2 5 0 (zeros 252)) = false := by decide +kernel

/-! ## Every constructor's decoding: records and packets by hand from R95, R80, R84 -/

theorem test_decode_hostcmd :
    -- 915 = 7 * 128 + 19, so its digits are 0x93 0x07; 14 dBm is sign 0, value 14
    decodeRecord [0x01, 0x00, 0x00, 0x01, 0x93, 0x07, 0x00, 0x00, 0x0E, 0x00, 0x00, 0x00] = .ok (.init InitArgs.reset) ∧
    decodeRecord [0x02, 0x07] = .ok (.onReceive 7) ∧
    decodeRecord [0x03, 0x02, 0x68, 0x69, 0x02, 0x07, 0x00] = .ok (.send [0x68, 0x69] 2 7 0) ∧
    decodeRecord [0x04, 0x02, 0x68, 0x69, 0xFF, 0x00, 0x03] = .ok (sendToWaitWithDefaults [0x68, 0x69] 0xFF) ∧
    decodeRecord [0x05] = .ok .close := by decide

theorem test_decode_intcmd :
    decodeRecord [0x10] = .ok .setIdle ∧ decodeRecord [0x11] = .ok .setTx ∧ decodeRecord [0x12] = .ok .setRx ∧
    decodeRecord [0x13] = .ok .setCad ∧ decodeRecord [0x14] = .ok .sleep ∧
    decodeRecord [0x20, 0x02, 0x05] = .ok (.sendAck 2 5) ∧ decodeRecord [0x21] = .ok .waitPacketSent ∧
    decodeRecord [0x22] = .ok .waitCad := by decide

theorem test_decode_func :
    decodeRecord [0x40, 0x02, 0x01, 0x05, 0xA5, 0x01, 0x00] = .ok (.hdrBuild 2 1 5 0xA5 [0]) ∧
    decodeRecord [0x41, 0x03, 0x01, 0x02, 0x05] = .ok (.hdrParse [1, 2, 5]) ∧
    decodeRecord [0x42, 0xFF] = .ok (.addrAccept 0xFF) ∧ decodeRecord [0x43, 0x81] = .ok (.flagIsAck 0x81) ∧
    decodeRecord [0x44] = .ok .seqNext ∧ decodeRecord [0x45] = .ok .ackMatch ∧
    decodeRecord [0x48, 0x01, 0x21] = .ok (.encWrap [0x21]) ∧
    decodeRecord [0x49, 0x10, 0, 1, 2, 3, 4, 5, 6, 7, 8, 9, 10, 11, 12, 13, 14, 15] =
      .ok (.encUnwrap [0, 1, 2, 3, 4, 5, 6, 7, 8, 9, 10, 11, 12, 13, 14, 15]) ∧
    decodeRecord [0x4A, 0x28, 0x64] = .ok (.sigMetrics 0x28 0x64) := by decide

theorem test_decode_event_and_frames :
    decodeRecord [0x80] = .ok .irq ∧
    decodeFrame [0x01, 0x02, 0x05, 0x01, 0x21] = .ok (.frameAck 1 2 5 0 [0x21]) ∧            -- V30-12
    decodeFrame [0x01, 0x02, 0x05, 0xFE, 0x41] = .ok (.frameData 1 2 5 0x7F [0x41]) ∧        -- V30-13
    decodeFrame [0xFF, 0x02, 0x05, 0x03] = .ok (.frameAck 0xFF 2 5 1 []) ∧                   -- V30-14
    decodeFrame [0x01, 0x02, 0x05] = .error .shortFrame := by decide                         -- V30-9

theorem test_decode_rejects :
    decodeRecord [] = .error .emptyRecord ∧ decodeRecord [0x00] = .error (.illegalCode 0) ∧
    decodeRecord [0x46] = .error (.illegalCode 0x46) ∧ decodeRecord [0x05, 0x00] = .error .trailing ∧
    decodeRecord [0x42] = .error .truncated ∧ decodeRecord [0x02, 0x80, 0x00] = .error .paddedNat ∧
    decodeRecord [0x41, 0x80, 0x02] = .error .truncated := by decide

theorem test_decode_longFrame : decodeFrame (zeros 256) = .error .longFrame := by decide +kernel

/-- The two FRAME rows' words: bit 0 of the word is bit 0 of the flag byte (R84). -/
theorem test_table_words :
    decodeTableWord 32 1 = some (.frameAck 0 0 0 0 []) ∧ decodeTableWord 32 0 = some (.frameData 0 0 0 0 []) ∧
    decodeTableWord 8 0x44 = some .seqNext ∧ decodeTableWord 8 0x00 = none := by decide

/-- INIT's word runs as the first step, in the place before construction. -/
theorem test_first_step_init : (nextOf (step (State.reset.withFetchWord 8 0x01))).map State.life = some .constructing := by
  decide

theorem test_first_step_seqNext :
    (nextOf (step (State.reset.withFetchWord 8 0x44))).map State.lastHeaderId = some 1 := by decide

/-! ## Lengths and framing (V30, V40) -/

theorem test_frameLen :
    frameLen 0 none = 4 ∧ frameLen 251 none = 255 ∧ frameLen 252 none = 256 ∧ frameLen 0 (some 3) = 20 ∧
    frameLen 15 (some 3) = 20 ∧ frameLen 16 (some 3) = 36 ∧ frameLen 239 (some 3) = 244 ∧
    frameLen 240 (some 3) = 260 := by decide

theorem test_hdrBuild : labelsOf (.hdrBuild 2 1 5 0 [0x68, 0x69]) bench =
    some [.result (.bytes [0x02, 0x01, 0x05, 0x00, 0x68, 0x69])] := by decide

theorem test_hdrParse : labelsOf (.hdrParse [1, 2, 5, 1, 0x21]) bench =
    some [.result (.parsed (some ⟨1, 2, 5, 1, [0x21]⟩))] := by decide

theorem test_hdrParse_short : labelsOf (.hdrParse [1, 2, 5]) bench = some [.result (.parsed none)] := by decide

theorem test_addrAccept :
    labelsOf (.addrAccept 0x01) bench = some [.result (.bool true)] ∧
    labelsOf (.addrAccept 0xFF) bench = some [.result (.bool true)] ∧
    labelsOf (.addrAccept 0x02) bench = some [.result (.bool false)] ∧
    labelsOf (.addrAccept 0x01) { bench with thisAddress := 0xFF } = some [.result (.bool false)] := by decide

theorem test_flagIsAck :
    labelsOf (.flagIsAck 0x81) bench = some [.result (.bool true)] ∧
    labelsOf (.flagIsAck 0xFE) bench = some [.result (.bool false)] ∧
    labelsOf (.flagIsAck 0x80) bench = some [.result (.bool false)] := by decide

theorem test_seqNext_wraps :
    (nextOf (exec .seqNext { bench with lastHeaderId := 0xFF })).map (fun s => (s.lastHeaderId, s.obs)) =
      some (0, [.result (.byte 0)]) := by decide

theorem test_ackMatch :
    let s : State := { bench with lastHeaderId := 5, lastReceivedPayload := some ackRecord }
    labelsOf .ackMatch s = some [.result (.bool true)] ∧
    labelsOf .ackMatch { s with lastReceivedPayload := none } = some [.result (.bool false)] ∧
    labelsOf .ackMatch { s with lastReceivedPayload := some { ackRecord with headerFrom := 9 } } =
      some [.result (.bool true)] ∧
    labelsOf .ackMatch { s with lastReceivedPayload := some { ackRecord with headerFlags := 0 } } =
      some [.result (.bool false)] := by decide

theorem test_ackMatch_fields :
    let s : State := { bench with lastHeaderId := 5, lastReceivedPayload := some ackRecord }
    labelsOf .ackMatch { s with lastReceivedPayload := some { ackRecord with headerTo := 0xFF } } =
      some [.result (.bool false)] ∧
    labelsOf .ackMatch { s with lastReceivedPayload := some { ackRecord with headerId := 4 } } =
      some [.result (.bool false)] ∧
    labelsOf .ackMatch { s with lastReceivedPayload := some { ackRecord with headerFlags := 0x81 } } =
      some [.result (.bool true)] := by decide

/-! ## Encryption framing (V44) with the codec XOR-0xAA -/

theorem test_wrap :
    wrapWith xorAA [] = List.replicate 16 0xAA ∧
    wrapWith xorAA [0x21] = [0xAB, 0x8B] ++ List.replicate 14 0xAA ∧
    wrapWith xorAA [0x68, 0x69] = [0xA8, 0xC2, 0xC3] ++ List.replicate 13 0xAA := by decide

theorem test_wrap_lengths :
    (wrapBlock (zeros 15)).length = 16 ∧ (wrapBlock (zeros 16)).length = 32 ∧ (wrapBlock (zeros 239)).length = 240 ∧
    (wrapBlock (zeros 240)).length = 256 ∧ (wrapBlock (zeros 251)).length = 256 := by decide +kernel

theorem test_unwrap :
    unwrapWith xorAA (List.replicate 16 0xAA) = [] ∧
    unwrapWith xorAA (List.replicate 16 0x41) = List.replicate 15 0xEB ∧
    unwrapWith xorAA ([0xA9, 0xAB, 0xA8, 0xA9, 0xA3, 0xA3] ++ List.replicate 10 0xAA) = [1, 2, 3] := by decide

theorem test_enc_needs_codec :
    refusalOf (exec (.encWrap [0x21]) bench) = some .codecAbsent ∧
    refusalOf (exec (.encUnwrap (zeros 16)) bench) = some .codecAbsent := by decide

theorem test_enc_with_codec :
    (nextOf (exec (.encWrap [0x21]) benchCodec)).isSome = true ∧
    (nextOf (exec (.encUnwrap (zeros 16)) benchCodec)).isSome = true := by decide

/-- R110: "the function is total", its bound "checked by the caller ... not here". -/
theorem test_hdrBuild_long :
    labelsOf (.hdrBuild 2 1 5 0 (zeros 252)) bench = some [.result (.bytes ([2, 1, 5, 0] ++ zeros 252))] := by decide +kernel

/-- ENC.WRAP and ENC.UNWRAP end no run on a payload or a block of another length (log 36). -/
theorem test_enc_runs_on_any_length :
    (nextOf (exec (.encWrap (zeros 256)) benchCodec)).isSome = true ∧
    (nextOf (exec (.encUnwrap []) benchCodec)).isSome = true ∧
    (nextOf (exec (.encUnwrap (zeros 15)) benchCodec)).isSome = true := by decide +kernel

/-- The result on an empty block is the slice of R193 from the free bytes: `d = 02 68 69 00` gives `68 69`. -/
theorem test_unwrap_free :
    labelsOf (.encUnwrap []) { benchCodec with oracle := { Oracle.reset with scratch := [2, 0x68, 0x69, 0] } } =
      some [.result (.bytes [0x68, 0x69])] := by decide

/-! ## Signal metrics (V60-12 with the values of G3) -/

theorem test_sigMetrics_high :
    labelsOf (.sigMetrics 0x28 0x64) bench = some [.result (.metrics 10 (-57))] := by decide +kernel

theorem test_sigMetrics_low :
    labelsOf (.sigMetrics 0x28 0x64) { bench with cfg := { bench.cfg with frequencyMHz := 433 } } =
      some [.result (.metrics 10 (-64))] := by decide +kernel

/-! ## Mode requests (V41) -/

theorem test_setIdle :
    labelsOf .setIdle bench = some [.radio (.writeMode .standby), .result .unit] ∧
    labelsOf .setIdle (inMode .idle none) = some [.result .unit] := by decide

theorem test_setTx :
    labelsOf .setTx (inMode .idle none) =
      some [.radio (.writeMode .tx), .txStart [], .radio (.mapIrq .txDone), .result .unit] ∧
    labelsOf .setTx (inMode .tx (some .txDone)) = some [.result .unit] := by decide

theorem test_setRx :
    labelsOf .setRx (inMode .tx (some .txDone)) =
      some [.radio (.writeMode .rxContinuous), .radio (.mapIrq .rxDone), .result .unit] ∧
    labelsOf .setRx (inMode .rxContinuous (some .rxDone)) = some [.result .unit] := by decide

theorem test_sleep :
    labelsOf .sleep bench = some [.result .unit] ∧
    labelsOf .sleep (inMode .cad (some .cadDone)) = some [.radio (.writeMode .sleep), .result .unit] := by decide

theorem test_setCad :
    (nextOf (exec .setCad bench)).map (fun s => (s.app, s.mode)) = some (.busy [.setCad .m2 0], .idle) ∧
    labelsOf .setCad (inMode .cad (some .cadDone)) = some [.result .unit] := by decide

/-! ## Send, waits, host surface (V42, V43, V45): first steps -/

theorem test_send_rejects_252 : labelsOf (sendWithDefaults (zeros 252) 2) bench = some [.result (.bool false)] := by
  decide +kernel

theorem test_send_starts :
    (nextOf (exec (.send [0x68, 0x69] 2 7 0) bench)).map State.app =
      some (.busy [.send .s1 ⟨[0x68, 0x69], 2, 7, 0⟩ []]) := by decide

theorem test_sendToWait_rejects_252 :
    (nextOf (exec (sendToWaitWithDefaults (zeros 252) 2) { bench with lastHeaderId := 4 })).map
      (fun s => (s.lastHeaderId, s.obs)) = some (4, [.result (.bool false)]) := by decide +kernel

theorem test_sendToWait_counts_at_w1 :
    (appStep { bench with app := .busy [.sendToWait .w1 ⟨[0x41], 2, 0, 0⟩ 0 0], lastHeaderId := 4 }).lastHeaderId = 5 := by
  decide

theorem test_sendAck_starts :
    (nextOf (exec (.sendAck 2 5) bench)).map State.app =
      some (.busy [.send .s1 ⟨[0x21], 2, 5, 1⟩ [], .sendAck .a1 2 5]) := by decide

/-- V30-15. -/
theorem test_ack_frame : sendFrame (ackArgs 2 5) bench = [0x02, 0x01, 0x05, 0x01, 0x21] := by decide

theorem test_waitPacketSent_starts :
    (nextOf (exec .waitPacketSent bench)).map State.app =
      some (.busy [.wait .p1 .modeNotTx ⟨1, 2, by decide, by decide⟩ 0 0]) := by decide +kernel

theorem test_waitCad_disabled : labelsOf .waitCad bench = some [.result (.cad .clear)] := by decide

theorem test_waitCad_enabled :
    (nextOf (exec .waitCad { bench with cfg := { bench.cfg with cadTimeout := 1 } })).map State.app =
      some (.busy [.waitCad .k1 0 0]) := by decide

theorem test_init_refused_when_live : refusalOf (exec (.init InitArgs.reset) bench) = some .secondInit := by decide

theorem test_init_failed :
    (nextOf (exec (.init InitArgs.reset) { bench with life := .absent, hwInitOk := false })).map
      (fun s => (s.life, s.obs)) = some (.failed, [.result (.raised .hardwareInitError)]) := by decide

theorem test_onReceive_replaces :
    (nextOf (exec (.onReceive 8) { bench with receiveCallback := some 7 })).map State.receiveCallback = some (some 8) := by
  decide

theorem test_close_writes_sleep : labelsOf .close (inMode .rxContinuous (some .rxDone)) =
    some [.radio (.writeMode .sleep)] := by decide

theorem test_close_refused_with_handler :
    refusalOf (exec .close { bench with isrs := [newInvocation] }) = some .closeWithLiveHandler := by decide

/-! ## The interrupt and its handler (V60): single steps -/

theorem test_irq_starts_handler : (nextOf (exec .irq bench)).map State.isrs = some [newInvocation] := by decide

theorem test_irq_latched :
    (nextOf (exec .irq { bench with par := { benchPar with isrReentrant := false }, isrs := [newInvocation] })).map
      (fun s => (s.isrs, s.edgeLatched)) = some ([newInvocation], true) := by decide

/-- H2, R232: the receive path goes first; a flag of another mode belongs to no branch. -/
theorem test_handler_branches :
    irqBranch .rxContinuous ⟨true, true, false, false⟩ = .h2a ∧ irqBranch .rxContinuous ⟨false, true, false, false⟩ = .h5 ∧
    irqBranch .tx ⟨false, true, false, false⟩ = .h3 ∧ irqBranch .cad ⟨false, false, true, true⟩ = .h4a ∧
    irqBranch .idle ⟨false, false, true, false⟩ = .h5 ∧ irqBranch .sleep ⟨false, false, false, false⟩ = .h5 := by decide

theorem test_handler_reads_packet : (readPacket (received [1, 2, 5, 0, 0x68])).1 = [1, 2, 5, 0, 0x68] := by decide

theorem test_frameData_goes_to_h2e :
    (nextOf (exec (.frameData 1 2 5 0x7F [0x41]) (inMode .rxContinuous (some .rxDone)))).map (fun s => s.isrs.map (·.head?.map
      (fun f => match f with | .irq l x => (l == .h2e, x.hdr) | _ => (false, ⟨0, 0, 0, 0, []⟩)))) =
      some [some (true, ⟨1, 2, 5, 0xFE, [0x41]⟩)] := by decide +kernel

theorem test_frameAck_goes_to_h2e :
    (nextOf (exec (.frameAck 1 2 5 0 [0x21]) (inMode .rxContinuous (some .rxDone)))).map (fun s => s.isrs.map (·.head?.map
      (fun f => match f with | .irq l x => (l == .h2e, x.hdr) | _ => (false, ⟨0, 0, 0, 0, []⟩)))) =
      some [some (true, ⟨1, 2, 5, 1, [0x21]⟩)] := by decide +kernel

/-- V45-7: no packet is received while the radio sleeps, by the radio's step or by the frame rows. -/
theorem test_radio_sleeping : radioStep (.rxPacket [1, 2, 5, 0] 0 0) bench = bench ∧
    nextOf (exec (.frameData 1 2 5 0 [0x41]) bench) = some bench ∧
    nextOf (exec (.frameAck 1 2 5 0 [0x21]) bench) = some bench := by decide +kernel

/-! ## Witnesses: for every statement with hypotheses, a state and operands that meet them together -/

/-- Any oracle answers do. -/
def o0 : Oracle := Oracle.reset

/-- A frame of 255 bytes without a codec. -/
def longest : Bytes := zeros 251

theorem test_hyps_DecodeInvertsEncode :
    wellFormed (.init InitArgs.reset) = true ∧ wellFormed (.send (zeros 300) 2 0 0) = true ∧
    wellFormed (.hdrBuild 2 1 5 0 (zeros 252)) = true ∧ wellFormed (.hdrParse (zeros 256)) = true ∧
    wellFormed (.encWrap (zeros 256)) = true ∧ wellFormed (.encUnwrap []) = true ∧
    wellFormed (.frameData 1 2 5 0x7F (zeros 251)) = true ∧ wellFormed (.frameAck 1 2 5 0 []) = true := by
  decide +kernel

theorem test_hyps_EncodeInvertsDecode :
    decodeRecord [0x02, 0x80, 0x01] = .ok (.onReceive 128) ∧ decodeFrame [1, 2, 5, 0] = .ok (.frameData 1 2 5 0 []) := by
  decide

theorem test_hyps_OtherCodesAreRefused :
    (0x46 : Byte).toNat ∉ [0x01, 0x02, 0x03, 0x04, 0x05, 0x10, 0x11, 0x12, 0x13, 0x14, 0x20, 0x21, 0x22, 0x40, 0x41,
      0x42, 0x43, 0x44, 0x45, 0x48, 0x49, 0x4A, 0x80] ∧
    (0x81 : Byte).toNat ∉ [0x01, 0x02, 0x03, 0x04, 0x05, 0x10, 0x11, 0x12, 0x13, 0x14, 0x20, 0x21, 0x22, 0x40, 0x41,
      0x42, 0x43, 0x44, 0x45, 0x48, 0x49, 0x4A, 0x80] ∧
    ({ bench with script := [.present .host o0 [0x46]] } : State).script = .present .host o0 [0x46] :: [] := by
  decide

theorem test_hyps_StepRunsTheDecodedOperation :
    let s : State := { bench with script := [.present .bench o0 [0x12]] }
    s.script = .present .bench o0 [0x12] :: [] ∧ decode .bench [0x12] = .ok .setRx ∧ Instr.setRx.format.channel = .bench ∧
    decode .host [0x05] = .ok .close ∧ Instr.close.format.channel = .host ∧
    decode .radioIrq [0x80] = .ok .irq ∧ Instr.irq.format.channel = .radioIrq ∧
    decode .air [1, 2, 5, 1] = .ok (.frameAck 1 2 5 0 []) ∧ (Instr.frameAck 1 2 5 0 []).format.channel = .air := by
  decide +kernel

theorem test_hyps_StepRunsOneAgent :
    bench.script = [] ∧
    (let s : State := { bench with app := .busy [.sendAck .a1 2 5], script := [.app o0] };
      s.script = .app o0 :: [] ∧ s.app = .busy [.sendAck .a1 2 5]) ∧
    (let s : State := { bench with isrs := [newInvocation], script := [.isr 0 o0] };
      s.script = .isr 0 o0 :: [] ∧ s.isrs[0]? = some newInvocation ∧ s.life ≠ .closed) ∧
    ({ bench with script := [.radio (.txDone true)] } : State).script = .radio (.txDone true) :: [] ∧
    ({ bench with script := [.elapse (-1)] } : State).script = .elapse (-1) :: [] ∧
    ({ bench with script := [.boot false] } : State).script = .boot false :: [] := by decide +kernel

/-- R80: no packet has more than 255 bytes, so one of 256 is not received, and its arrival ends no run. -/
theorem test_hyps_StepRunsOneAgent_long :
    let s : State := { inMode .rxContinuous (some .rxDone) with script := [.present .air o0 (zeros 256)] }
    255 < (zeros 256).length ∧ nextOf (step s) = some { s with script := [], oracle := o0 } := by decide +kernel

theorem test_hyps_HostPortTakesHostCommandsOnly :
    (let s : State := { bench with script := [.present .host o0 [0x10]] };
      s.script = .present .host o0 [0x10] :: [] ∧ decodeRecord [0x10] = .ok .setIdle ∧ Instr.setIdle.format ≠ .hostCmd) ∧
    ({ bench with script := [.present .callback o0 [0x05]] } : State).script = .present .callback o0 [0x05] :: [] := by
  decide +kernel

theorem test_hyps_CommandsRefusedOutOfTurn :
    Instr.close.format = .hostCmd ∧ Instr.setRx.format = .intCmd ∧ Instr.seqNext.format = .func ∧
    ({ bench with app := .busy [] } : State).app = .busy [] ∧
    (let s : State := { bench with life := .closed }; s.app = .idle ∧ s.life = .closed) ∧
    (let s : State := { bench with life := .failed }; s.app = .idle ∧ s.life = .failed) ∧
    (let s : State := { bench with life := .absent }; s.app = .idle ∧ s.life = .absent) ∧
    bench.app = .idle ∧ bench.life = .live := by decide

theorem test_hyps_InitConstructsTheInstance :
    let s : State := { bench with life := .absent, script := [.app o0, .app o0] }
    s.app = .idle ∧ s.life = .absent ∧ s.hwInitOk = true ∧ s.script = [.app o0, .app o0] := by decide +kernel

theorem test_hyps_FailedInitLeavesNoInstance :
    let s : State := { bench with life := .absent, hwInitOk := false }
    s.app = .idle ∧ s.life = .absent ∧ s.hwInitOk = false := by decide

/-- The hypotheses `app = idle` and `life = live`, which most statements about one operation share, hold after reset. -/
theorem test_hyps_ready : State.reset.app = .idle ∧ State.reset.life = .live ∧ bench.app = .idle ∧ bench.life = .live := by
  decide

theorem test_hyps_CloseSleepsAndReleases :
    ({ bench with isrs := [newInvocation] } : State).isrs ≠ [] ∧
    (let s : State := { inMode .rxContinuous (some .rxDone) with script := [.app o0] };
      s.app = .idle ∧ s.life = .live ∧ s.isrs = [] ∧ s.script = [.app o0]) := by decide +kernel

theorem test_hyps_SendChecksItsArgument :
    255 < frameLen (zeros 252).length bench.cfg.codec ∧ frameLen longest.length bench.cfg.codec ≤ 255 ∧
    255 < frameLen (zeros 240).length benchCodec.cfg.codec ∧ frameLen (zeros 239).length benchCodec.cfg.codec ≤ 255 ∧
    bench.cfg.codec = none ∧ benchCodec.cfg.codec = some 3 ∧ benchCodec.app = .idle ∧ benchCodec.life = .live := by
  decide +kernel

/-- A state with the moves of a SEND in its script. -/
def sending (s : State) (g : Time) (x : Sensing) : State := { s with script := sendMoves s.mode g x o0 }

/-- All the hypotheses of SendTransmitsItsFrame but the script, which `sending` places. -/
def sendHyps (s : State) (g : Time) (x : Sensing) : Prop :=
  s.app = .idle ∧ s.life = .live ∧ (s.mode = .tx → 0 ≤ g ∧ s.cfg.waitPacketSentTimeout ≤ g) ∧ x.fits s ∧
    frameLen longest.length s.cfg.codec ≤ 255 ∧ s.script = sendMoves s.mode g x o0

/-- Sensing disabled, a cycle that finds the channel clear (CAD_TIMEOUT = 1, R180's example), a busy channel to the
bound exactly, and V42-5: mode TX, its wait ended at its bound exactly. -/
theorem test_hyps_SendTransmitsItsFrame :
    let on : State := { bench with cfg := { bench.cfg with cadTimeout := 1 } }
    let tx : State := inMode .tx (some .txDone)
    let settle : Time := benchPar.cadSettleTime
    sendHyps (sending bench 0 .disabled) 0 .disabled ∧
    sendHyps (sending on 0 (.clear settle true)) 0 (.clear settle true) ∧
    sendHyps (sending on 0 (.busy settle (1 - settle))) 0 (.busy settle (1 - settle)) ∧
    (tx.mode = .tx ∧ sendHyps (sending tx tx.cfg.waitPacketSentTimeout .disabled) tx.cfg.waitPacketSentTimeout .disabled) := by
  simp only [sendHyps, Sensing.fits]
  decide +kernel

theorem test_hyps_SendToWaitChecksItsArgument :
    bench.app = .idle ∧ bench.life = .live ∧ 255 < frameLen (zeros 252).length bench.cfg.codec ∧
    frameLen longest.length bench.cfg.codec ≤ 255 := by decide +kernel

theorem test_hyps_BroadcastReturnsAfterOneSend :
    let s : State := { bench with script := appMoves 14 o0 }
    s.app = .idle ∧ s.life = .live ∧ s.cfg.cadTimeout = 0 ∧ s.mode ≠ .tx ∧
    frameLen [0x68, 0x69].length s.cfg.codec ≤ 255 ∧ s.script = appMoves 14 o0 := by decide +kernel

theorem test_hyps_NoAckExhaustsRetries :
    let s : State := { bench with script := .app o0 :: attemptsMoves 4 [o0, o0, o0] ++ appMoves 2 o0 }
    s.app = .idle ∧ s.life = .live ∧ s.cfg.cadTimeout = 0 ∧ s.mode ≠ .tx ∧ (2 : Byte) ≠ 255 ∧
    frameLen [0x41].length s.cfg.codec ≤ 255 ∧ 0 ≤ s.cfg.retryTimeout ∧ 2 * s.cfg.retryTimeout ≤ 4 ∧
    ackMatches { s with lastHeaderId := s.lastHeaderId + 1 } = false ∧ [o0, o0, o0] ≠ [] ∧
    s.script = .app o0 :: attemptsMoves 4 [o0, o0, o0] ++ appMoves 2 o0 := by decide +kernel

theorem test_hyps_StaleRecordEndsTheWait :
    let s : State :=
      { bench with lastHeaderId := 4, lastReceivedPayload := some ackRecord, script := appMoves 16 o0 }
    s.app = .idle ∧ s.life = .live ∧ s.cfg.cadTimeout = 0 ∧ s.mode ≠ .tx ∧ (2 : Byte) ≠ 255 ∧
    frameLen [0x41].length s.cfg.codec ≤ 255 ∧ 0 < s.cfg.retryTimeout ∧ s.lastReceivedPayload = some ackRecord ∧
    ackRecord.headerTo = s.thisAddress ∧ ackRecord.headerFlags.getLsbD 0 = true ∧
    ackRecord.headerId = s.lastHeaderId + 1 ∧ s.script = appMoves 16 o0 := by decide +kernel

theorem test_hyps_modeRequests :
    (inMode .idle none).mode = .idle ∧ bench.mode ≠ .idle ∧ (inMode .tx none).mode = .tx ∧ bench.mode ≠ .tx ∧
    (inMode .rxContinuous none).mode = .rxContinuous ∧ bench.mode ≠ .rxContinuous ∧ bench.mode = .sleep ∧
    (inMode .cad none).mode ≠ .sleep ∧ (inMode .cad none).app = .idle ∧ (inMode .cad none).life = .live := by decide

theorem test_hyps_SetCadForcesIdleThenSettles :
    (inMode .cad none).mode = .cad ∧
    (let s : State := { bench with script := [.app o0, .app o0] };
      s.app = .idle ∧ s.life = .live ∧ s.mode ≠ .cad ∧ s.script = [.app o0, .app o0] ∧ 0 < s.par.cadSettleTime) ∧
    (let s : State := { bench with script := [.app o0, .elapse 1, .app o0] };
      s.app = .idle ∧ s.life = .live ∧ s.mode ≠ .cad ∧ s.script = [.app o0, .elapse 1, .app o0] ∧
      s.par.cadSettleTime ≤ 1 ∧ (0 : Time) ≤ 1) ∧
    (let s : State :=
        { bench with
          isrs := [[.irq .h2gRx ⟨FlagSet.empty, .sleep, [], 0, 0, ⟨0, 0, 0, 0, []⟩, []⟩]]
          script := [.app o0, .isr 0 o0, .elapse 1, .app o0] };
      s.app = .idle ∧ s.life = .live ∧ s.mode ≠ .cad ∧
      s.isrs[0]? = some [.irq .h2gRx ⟨FlagSet.empty, .sleep, [], 0, 0, ⟨0, 0, 0, 0, []⟩, []⟩] ∧
      s.script = [.app o0, .isr 0 o0, .elapse 1, .app o0] ∧ s.par.cadSettleTime ≤ 1) ∧
    (let v : State := { inMode .rxContinuous (some .rxDone) with app := .busy [.setCad .m3 1] };
      v.app = .busy [.setCad .m3 1] ∧ v.clock < 1 ∧ 1 ≤ ({ v with clock := 1 } : State).clock) := by decide +kernel

theorem test_hyps_WaitPacketSentOutcomes :
    (let s : State := { bench with script := [.app o0] };
      s.app = .idle ∧ s.life = .live ∧ 0 < s.cfg.waitPacketSentTimeout ∧ s.mode ≠ .tx ∧ s.script = [.app o0]) ∧
    (let s : State := { inMode .tx (some .txDone) with script := [.elapse 1, .app o0] };
      s.app = .idle ∧ s.life = .live ∧ 0 < s.cfg.waitPacketSentTimeout ∧ s.mode = .tx ∧
      s.script = [.elapse 1, .app o0] ∧ s.cfg.waitPacketSentTimeout ≤ 1) := by decide +kernel

/-- The four cases of a sample and the sleeping agent, at the deadline exactly where a case meets another. -/
theorem test_hyps_WaitUntilSamples :
    let busy (wake : Time) : AppCtl := .busy [.wait .p1 .modeNotTx 1 0 wake]
    let s : State := { bench with app := busy 0 }
    let u : State := { inMode .tx (some .txDone) with app := busy 0 }
    ({ s with app := busy 1 } : State).clock < 1 ∧
    (s.app = busy 0 ∧ (0 : Time) ≤ s.clock ∧ condHolds .modeNotTx s = true ∧ s.clock - 0 < 1) ∧
    (condHolds .modeNotTx ({ s with clock := 1 } : State) = true ∧ 1 ≤ ({ s with clock := 1 } : State).clock - 0) ∧
    (condHolds .modeNotTx ({ u with clock := 1 } : State) = false ∧ 1 ≤ ({ u with clock := 1 } : State).clock - 0) ∧
    (condHolds .modeNotTx u = false ∧ u.clock - 0 < 1 ∧ (0 : Time) ≤ u.par.pollInterval) := by decide +kernel

theorem test_hyps_SendAckEchoesTheId :
    let s : State :=
      { bench with script := appMoves 10 o0 ++ .radio (.txDone false) :: (isrMoves 4 0 o0 ++ appMoves 1 o0) }
    s.app = .idle ∧ s.life = .live ∧ s.cfg.cadTimeout = 0 ∧ s.mode ≠ .tx ∧ s.isrs = [] ∧ s.edgeLatched = false ∧
    s.radio.flags.txDone = false ∧
    s.script = appMoves 10 o0 ++ .radio (.txDone false) :: (isrMoves 4 0 o0 ++ appMoves 1 o0) := by decide +kernel

theorem test_hyps_WaitCadDisabledIsClear :
    bench.cfg.cadTimeout = 0 ∧ ({ bench with cfg := { bench.cfg with cadTimeout := 1 } } : State).cfg.cadTimeout ≠ 0 := by
  decide

/-- Exit (a) before the deadline and at it, exit (c) at the deadline, branch (b), and polling on. -/
theorem test_hyps_WaitCadTestsInOrder :
    let s : State :=
      { inMode .idle none with
        cfg := { bench.cfg with cadTimeout := 1 }, app := .busy [.waitCad .k2 0 0], cadDetected := .clear }
    (s.app = .busy [.waitCad .k2 0 0] ∧ (0 : Time) ≤ s.clock ∧ s.mode = .idle ∧ s.cadDetected = .clear) ∧
    (let u : State := { s with cadDetected := .detected, clock := 1 };
      ¬ (u.mode = .idle ∧ u.cadDetected = .clear) ∧ u.cfg.cadTimeout ≤ u.clock - 0) ∧
    (let u : State := { s with cadDetected := .detected };
      u.mode = .idle ∧ u.cadDetected = .detected ∧ u.clock - 0 < u.cfg.cadTimeout) ∧
    (let u : State := { s with cadDetected := .unknown };
      u.cadDetected = .unknown ∧ u.clock - 0 < u.cfg.cadTimeout) ∧
    (let u : State := { s with mode := .cad };
      u.mode ≠ .idle ∧ u.clock - 0 < u.cfg.cadTimeout) := by decide +kernel

theorem test_hyps_WaitCadClearCycle :
    let s : State :=
      { bench with
        cfg := { bench.cfg with cadTimeout := 1 }
        script := appMoves 2 o0 ++
          .elapse 1 :: .app o0 :: .radio (.cadDone false false) :: (isrMoves 5 0 o0 ++ appMoves 1 o0) }
    s.app = .idle ∧ s.life = .live ∧ s.cfg.cadTimeout ≠ 0 ∧ s.mode ≠ .cad ∧ s.isrs = [] ∧ s.edgeLatched = false ∧
    s.radio.flags = ⟨false, false, false, false⟩ ∧ s.par.cadSettleTime ≤ 1 ∧ (0 : Time) ≤ 1 ∧
    s.script = appMoves 2 o0 ++
      .elapse 1 :: .app o0 :: .radio (.cadDone false false) :: (isrMoves 5 0 o0 ++ appMoves 1 o0) := by decide +kernel

theorem test_hyps_HeaderBuildAndParse : ([1, 2, 5] : Bytes).length < 4 ∧ bench.app = .idle ∧ bench.life = .live := by
  decide

theorem test_hyps_AckFlagDecides :
    (⟨0, 0, 0, 0x81, []⟩ : Header).flags.getLsbD 0 = true ∧
    (let s : State := { bench with lastHeaderId := 5, lastReceivedPayload := some ackRecord };
      s.app = .idle ∧ s.life = .live ∧ s.lastReceivedPayload = some ackRecord ∧ ackMatches s = true) := by decide

theorem test_hyps_AckMatchReadsThreeFields :
    bench.lastReceivedPayload = none ∧
    ({ bench with lastReceivedPayload := some ackRecord } : State).lastReceivedPayload = some ackRecord := by decide

/-- The range of ENC.WRAP's operand ends at 255 bytes, ENC.UNWRAP's are the positive multiples of 16. -/
theorem test_hyps_EncryptionFraming :
    bench.cfg.codec = none ∧ benchCodec.cfg.codec = some 3 ∧ benchCodec.app = .idle ∧ benchCodec.life = .live ∧
    (zeros 255).length ≤ 255 ∧ 255 < (zeros 256).length ∧ (zeros 16).length ≠ 0 ∧ (zeros 16).length % 16 = 0 ∧
    ¬ (([] : Bytes).length ≠ 0 ∧ ([] : Bytes).length % 16 = 0) ∧
    ¬ ((zeros 17).length ≠ 0 ∧ (zeros 17).length % 16 = 0) := by decide +kernel

theorem test_hyps_EncryptionFraming_decrypted : ∃ l rest, decrypt 3 (zeros 16) = l :: rest := by
  have h : (decrypt 3 (zeros 16)).length = 16 := by simp [decrypt, zeros]
  match hd : decrypt 3 (zeros 16), h with
  | l :: rest, _ => exact ⟨l, rest, rfl⟩

theorem test_hyps_PaddingIsLeast : (1 + longest.length + 4) % 16 = 0 ∧ longest.length ≤ 255 := by decide +kernel

/-- The toy codec of 95_test_vectors.md has (INV) and (LEN-E). -/
theorem test_hyps_CodecHasItsThreeProperties : (zeros 255).length ≤ 255 := by decide +kernel

theorem test_hyps_EncryptionRoundTrip :
    (∀ b : Bytes, b.length ≠ 0 → b.length % 16 = 0 → xorAA (xorAA b) = b ∧ (xorAA b).length = b.length) ∧
    (zeros 255).length ≤ 255 := by
  have h : ∀ b : Bytes, xorAA (xorAA b) = b := by
    intro b
    induction b with
    | nil => rfl
    | cons x b ih =>
      have hx : x ^^^ 0xAA ^^^ 0xAA = x := by rw [BitVec.xor_assoc, BitVec.xor_self, BitVec.xor_zero]
      exact congrArg₂ List.cons hx ih
  exact ⟨fun b _ _ => ⟨h b, by simp [xorAA]⟩, by decide +kernel⟩

theorem test_hyps_SignalMetrics :
    let s : State := { bench with cfg := { bench.cfg with frequencyMHz := 778 } }
    let t : State := { bench with cfg := { bench.cfg with frequencyMHz := 779 } }
    s.app = .idle ∧ s.life = .live ∧ s.par = t.par ∧ s.cfg.frequencyMHz < 779 ∧ 779 ≤ t.cfg.frequencyMHz := by
  decide +kernel

theorem test_hyps_BandSplitsAt779 : (778 : Rat) < 779 ∧ (779 : Rat) ≤ 779 ∧ (779 : Rat) ≤ 915 := by decide +kernel

theorem test_hyps_EdgeStartsOrLatches :
    let s : State := { bench with par := { benchPar with isrReentrant := false } }
    ({ bench with life := .closed } : State).life ≠ .live ∧ bench.life = .live ∧ bench.par.isrReentrant = true ∧
    (s.par.isrReentrant = false ∧ s.isrs = []) ∧
    ({ s with isrs := [newInvocation] } : State).isrs ≠ [] ∧
    (let u : State := { s with isrs := [newInvocation], edgeLatched := true };
      u.par.isrReentrant = false ∧ u.edgeLatched = true ∧ u.isrs = [newInvocation]) := by decide +kernel

theorem test_hyps_TxDoneInterruptSetsIdle :
    let s : State :=
      { inMode .tx (some .txDone) with
        radio := { bench.radio with flags := ⟨false, true, false, false⟩ }, script := isrMoves 4 0 o0 }
    s.life = .live ∧ s.isrs = [] ∧ s.edgeLatched = false ∧ s.mode = .tx ∧ s.radio.flags.txDone = true ∧
    s.script = isrMoves 4 0 o0 := by decide +kernel

theorem test_hyps_CadDoneInterruptGivesVerdict :
    let s : State :=
      { inMode .cad (some .cadDone) with
        radio := { bench.radio with flags := ⟨false, false, true, true⟩ }, script := isrMoves 5 0 o0 }
    s.life = .live ∧ s.isrs = [] ∧ s.edgeLatched = false ∧ s.mode = .cad ∧ s.radio.flags.cadDone = true ∧
    s.script = isrMoves 5 0 o0 := by decide +kernel

/-- V60-9. -/
theorem test_hyps_StaleInterruptOnlyClears :
    let s : State :=
      { inMode .rxContinuous (some .rxDone) with
        radio := { bench.radio with flags := ⟨false, true, false, false⟩ }, script := isrMoves 3 0 o0 }
    s.life = .live ∧ s.isrs = [] ∧ s.edgeLatched = false ∧
    ¬ (s.mode = .rxContinuous ∧ s.radio.flags.rxDone = true) ∧ ¬ (s.mode = .tx ∧ s.radio.flags.txDone = true) ∧
    ¬ (s.mode = .cad ∧ s.radio.flags.cadDone = true) ∧ s.script = isrMoves 3 0 o0 := by decide +kernel

/-- V60-2. -/
theorem test_hyps_MalformedPacketIsDropped :
    let s : State := { received [1, 2, 5] with script := isrMoves 7 0 o0 }
    s.life = .live ∧ s.isrs = [] ∧ s.edgeLatched = false ∧ s.mode = .rxContinuous ∧ s.radio.flags.rxDone = true ∧
    s.radio.rxPkt.length < 4 ∧ s.script = isrMoves 7 0 o0 := by decide +kernel

/-- V60-3. -/
theorem test_hyps_ForeignPacketIsDropped :
    let s : State := { received [3, 2, 5, 0, 0x68] with script := isrMoves 7 0 o0 }
    s.life = .live ∧ s.isrs = [] ∧ s.edgeLatched = false ∧ s.mode = .rxContinuous ∧ s.radio.flags.rxDone = true ∧
    s.radio.rxPkt = [3, 2, 5, 0] ++ [0x68] ∧ ([0x68] : Bytes).length ≤ 251 ∧ (3 : Byte) ≠ s.thisAddress ∧
    (3 : Byte) ≠ 255 ∧ s.script = isrMoves 7 0 o0 := by decide +kernel

/-- V60-4 and V60-6: for this node with acknowledgements off, and for all with them on; and no reception in SLEEP,
nor with the radio in STANDBY. -/
theorem test_hyps_DataFrameIsStoredAndDelivered :
    let s : State :=
      { inMode .rxContinuous (some .rxDone) with receiveCallback := some 7, script := isrMoves 6 0 o0 }
    (s.life = .live ∧ s.isrs = [] ∧ s.edgeLatched = false ∧ s.mode = .rxContinuous ∧
      s.radio.hwMode = .rxContinuous ∧ (1 : Byte) = s.thisAddress ∧ s.cfg.acksEnabled = false ∧
      s.script = isrMoves 6 0 o0) ∧
    (let u : State := { s with cfg := { s.cfg with acksEnabled := true } };
      u.cfg.acksEnabled = true ∧ (255 : Byte) ≠ u.thisAddress) ∧
    bench.mode ≠ .rxContinuous ∧
    ({ s with radio := { s.radio with hwMode := .standby } } : State).radio.hwMode ≠ .rxContinuous := by decide +kernel

theorem test_hyps_AckFrameIsStoredOnly :
    let s : State := { inMode .rxContinuous (some .rxDone) with script := isrMoves 6 0 o0 }
    s.life = .live ∧ s.isrs = [] ∧ s.edgeLatched = false ∧ s.mode = .rxContinuous ∧
    s.radio.hwMode = .rxContinuous ∧ (1 : Byte) = s.thisAddress ∧ s.script = isrMoves 6 0 o0 ∧
    bench.mode ≠ .rxContinuous := by
  decide +kernel

/-- V60-7. -/
theorem test_hyps_DataFrameIsAcknowledgedThenDelivered :
    let s : State :=
      { received [1, 2, 5, 0xFE, 0x41] with
        cfg := { bench.cfg with acksEnabled := true }
        receiveCallback := some 7
        script := isrMoves 19 0 o0 ++ .radio (.txDone false) :: (isrMoves 4 1 o0 ++ isrMoves 5 0 o0) }
    s.life = .live ∧ s.isrs = [] ∧ s.edgeLatched = false ∧ s.par.isrReentrant = true ∧ s.mode = .rxContinuous ∧
    s.radio.flags.rxDone = true ∧ s.radio.rxPkt = [s.thisAddress, 2, 5, 0xFE] ++ [0x41] ∧
    ([0x41] : Bytes).length ≤ 251 ∧ (0xFE : Byte).getLsbD 0 = false ∧ s.cfg.acksEnabled = true ∧
    s.cfg.cadTimeout = 0 ∧ s.receiveCallback = some 7 ∧
    s.script = isrMoves 19 0 o0 ++ .radio (.txDone false) :: (isrMoves 4 1 o0 ++ isrMoves 5 0 o0) := by decide +kernel

theorem test_hyps_RadioStepsAndTheLine :
    ((inMode .tx (some .txDone)).radio.hwMode = .tx ∧ (inMode .cad (some .cadDone)).radio.hwMode = .cad ∧
      (inMode .rxContinuous none).radio.hwMode = .rxContinuous ∧ (zeros 255).length ≤ 255) ∧
    (bench.radio.hwMode ≠ .tx ∧ bench.radio.hwMode ≠ .rxContinuous ∧ bench.radio.hwMode ≠ .cad) ∧
    255 < (zeros 256).length := by decide +kernel

theorem test_hyps_TxStartCarriesTheFrame : HwMode.standby ≠ .tx ∧ (inMode .tx (some .txDone)).mode = .tx := by decide

/-- The invariants' hypotheses: the bench waiting in SENDTOWAIT with a handler invocation live. -/
def working : State :=
  { received [1, 2, 5, 1, 0x21] with
    app := .busy [.wait .p1 .ackMatch 2 0 0, .sendToWait .w2d ⟨[0x41], 2, 0, 3⟩ 0 0]
    isrs := [newInvocation]
    script := [.isr 0 o0] }

theorem test_hyps_StepKeepsControlFitting : controlFits working ∧ (nextOf (step working)).isSome = true := by
  refine ⟨⟨by decide, .inr (.inr ⟨_, rfl, by decide⟩)⟩, by decide +kernel⟩

theorem test_hyps_StepKeepsRadioTracked : radioTracks working ∧ mappingFits working := by
  refine ⟨⟨fun h => (h (.inl rfl)).elim, fun _ => .inl rfl⟩, fun _ => ⟨?_, fun _ => rfl, ?_⟩⟩ <;>
    (intro h; cases h)

theorem test_hyps_StepKeepsLengths : lengthsFit working := by
  refine ⟨by decide, by decide, ?_, ?_, ?_⟩
  · intro p h; cases h
  · intro f h
    rcases List.mem_cons.mp h with rfl | h
    · trivial
    · rcases List.mem_cons.mp h with rfl | h
      · trivial
      · cases h
  · intro st h f hf
    have hst : st = newInvocation := by simpa [working] using h
    subst hst
    have hf' := List.mem_singleton.mp hf
    subst hf'
    exact ⟨by decide, by decide, by decide⟩

theorem test_hyps_AddressAndConfigurationAreFixed :
    working.life = .live ∧ (nextOf (step working)).map State.life = some .live := by decide +kernel

theorem test_hyps_RecordAndVerdictAreTheHandlers :
    working.script = .isr 0 o0 :: [] ∧
    (let s : State := { working with lastReceivedPayload := some ackRecord, cadDetected := .clear };
      s.lastReceivedPayload ≠ none ∧ s.cadDetected ≠ .unknown) := by decide +kernel

end Sys2Proof.Tests
end

section
/-! PROOFS. The scope: what a step runs (O5, O6), when a command is refused (O8), one sample of WaitUntil (O25). -/

namespace Sys2Proof.Machine

/-! ## Fetching and the moves of a script -/

/-- No format's own channel is the callback's, so fetching does not cut the operation off there. -/
theorem format_channel_ne_callback (f : Format) : f.channel ≠ .callback := by
  cases f <;> decide

/-- The converse of `fetch_eq_op`. -/
theorem fetch_of_decode {ch : Channel} {bytes : Bytes} {i : Instr} (hd : decode ch bytes = .ok i)
    (hc : i.format.channel = ch) : fetch ch bytes = .op i := by
  have hcb : ch ≠ .callback := hc ▸ format_channel_ne_callback i.format
  cases ch with
  | callback => exact absurd rfl hcb
  | _ => simp [fetch, hd, hc]

theorem step_nil {s : State} (h : s.script = []) : step s = .next s := by
  simp [step, h]

theorem step_op {s : State} {ch : Channel} {o : Oracle} {bytes : Bytes} {rest : List Move} {i : Instr}
    (h : s.script = .present ch o bytes :: rest) (hf : fetch ch bytes = .op i) :
    step s = exec i ((s.setScript rest).setOracle o) := by
  simp [step, h, hf]

theorem step_unreceived {s : State} {ch : Channel} {o : Oracle} {bytes : Bytes} {rest : List Move}
    (h : s.script = .present ch o bytes :: rest) (hf : fetch ch bytes = .unreceived) :
    step s = .next ((s.setScript rest).setOracle o) := by
  simp [step, h, hf]

/-- A move that is no arrival runs after it is taken from the script. -/
theorem step_move {s : State} {m : Move} {rest : List Move} (h : s.script = m :: rest)
    (hm : ∀ ch o bytes, m ≠ .present ch o bytes) : step s = runMove m (s.setScript rest) := by
  cases m with
  | present ch o bytes => exact absurd rfl (hm ch o bytes)
  | _ => simp [step, h]

theorem appStep_busy {s : State} {st : Stack} (h : s.app = .busy st) : appStep s = settleApp (stepStack st s) := by
  simp [appStep, h]

theorem isrStep_live {s : State} {k : Nat} {st : Stack} (hk : s.isrs[k]? = some st) (hl : s.life ≠ .closed) :
    isrStep k s = .next (settleIsr k (stepStack st s)) := by
  simp [isrStep, hk, hl]

/-! ## The gate in front of each operation -/

/-- The gate an operation passes before its first step; an edge and a packet pass none. -/
def opGate (i : Instr) (s : State) : Option Refusal :=
  match i with
  | .init _ => initGate s
  | .close => closeGate s
  | .encWrap _ => codecGate s
  | .encUnwrap _ => codecGate s
  | _ => gate s

/-- `exec` of a command, an internal operation or a function is guarded by `opGate`. -/
theorem exec_eq_guarded {i : Instr} (s : State)
    (hf : i.format = .hostCmd ∨ i.format = .intCmd ∨ i.format = .func) : ∃ t, exec i s = guarded (opGate i s) t := by
  cases i with
  | irq => simp [Instr.format] at hf
  | frameData dst src ident reserved body => simp [Instr.format] at hf
  | frameAck dst src ident reserved body => simp [Instr.format] at hf
  | _ => exact ⟨_, rfl⟩

theorem exec_refused {i : Instr} {s : State} {r : Refusal}
    (hf : i.format = .hostCmd ∨ i.format = .intCmd ∨ i.format = .func) (hg : opGate i s = some r) :
    exec i s = .refused r := by
  obtain ⟨t, ht⟩ := exec_eq_guarded s hf
  rw [ht, hg, guarded_some]

/-- CLOSE's gate and the codec's come after the common one, so only INIT's differs in what it refuses. -/
theorem opGate_eq_some {i : Instr} {s : State} {r : Refusal} (hg : gate s = some r)
    (hi : ∀ a, i = .init a → initGate s = some r) : opGate i s = some r := by
  cases i with
  | init a => exact hi a rfl
  | close => simp [opGate, closeGate, hg]
  | encWrap payload => simp [opGate, codecGate, hg]
  | encUnwrap block => simp [opGate, codecGate, hg]
  | _ => exact hg

theorem gate_busy {s : State} {st : Stack} (h : s.app = .busy st) : gate s = some .appBusy := by
  simp [gate, h]

theorem initGate_busy {s : State} {st : Stack} (h : s.app = .busy st) : initGate s = some .appBusy := by
  simp [initGate, h]

section
variable {s : State} (ha : s.app = .idle)
include ha

theorem gate_closed (hl : s.life = .closed) : gate s = some .afterClose := by
  simp [gate, ha, hl]

theorem gate_failed (hl : s.life = .failed) : gate s = some .afterFailedInit := by
  simp [gate, ha, hl]

theorem gate_absent (hl : s.life = .absent) : gate s = some .beforeInit := by
  simp [gate, ha, hl]

theorem initGate_closed (hl : s.life = .closed) : initGate s = some .afterClose := by
  simp [initGate, ha, hl]

theorem initGate_failed (hl : s.life = .failed) : initGate s = some .afterFailedInit := by
  simp [initGate, ha, hl]

theorem initGate_live (hl : s.life = .live) : initGate s = some .secondInit := by
  simp [initGate, ha, hl]

end

/-! ## WaitUntil (R14), step by step -/

@[simp] theorem resume_nil (v : Value) (s : State) : resume v [] s = .done v s := rfl

@[simp] theorem settleApp_go (st : Stack) (s : State) : settleApp (.go st s) = s.setApp (.busy st) := rfl

@[simp] theorem settleApp_done (v : Value) (s : State) :
    settleApp (.done v s) = (s.setApp .idle).emit (.result v) := rfl

theorem setApp_self {s : State} {a : AppCtl} (h : s.app = a) : s.setApp a = s := by
  subst h; rfl

section
variable {c : WaitCond} {bound t0 wake : Time} {caller : Stack} {s : State}

theorem stepWait_p1_asleep (h : s.clock < wake) :
    stepWait .p1 c bound t0 wake caller s = .go (.wait .p1 c bound t0 wake :: caller) s :=
  if_pos h

theorem stepWait_p1_awake (h : wake ≤ s.clock) :
    stepWait .p1 c bound t0 wake caller s = waitSample c bound t0 wake caller s :=
  if_neg (not_lt.mpr h)

theorem waitSample_holds_early (hc : condHolds c s = true) (hb : s.clock - t0 < bound) :
    waitSample c bound t0 wake caller s = resume (.bool true) caller s := by
  simp [waitSample, hc, hb]

theorem waitSample_holds_late (hc : condHolds c s = true) (hb : bound ≤ s.clock - t0) :
    waitSample c bound t0 wake caller s = resume (.bool s.oracle.late) caller s := by
  simp [waitSample, hc, not_lt.mpr hb]

theorem waitSample_fails_early (hc : condHolds c s = false) (hb : s.clock - t0 < bound) :
    waitSample c bound t0 wake caller s = .go (.wait .p2 c bound t0 wake :: caller) s := by
  simp [waitSample, hc, not_le.mpr hb]

theorem waitSample_fails_late (hc : condHolds c s = false) (hb : bound ≤ s.clock - t0) :
    waitSample c bound t0 wake caller s = resume (.bool false) caller s := by
  simp [waitSample, hc, hb]

theorem appStep_wait_asleep (h : s.app = .busy [.wait .p1 c bound t0 wake]) (hw : s.clock < wake) :
    appStep s = s := by
  rw [appStep_busy h, stepStack, stepWait_p1_asleep hw, settleApp_go, setApp_self h]

theorem appStep_wait_awake (h : s.app = .busy [.wait .p1 c bound t0 wake]) (hw : wake ≤ s.clock) :
    appStep s = settleApp (waitSample c bound t0 wake [] s) := by
  rw [appStep_busy h, stepStack, stepWait_p1_awake hw]

theorem appStep_wait_nap (h : s.app = .busy [.wait .p2 c bound t0 wake]) :
    appStep s = s.setApp (.busy [.wait .p1 c bound t0 (napEnd s)]) :=
  appStep_busy h

end

/-- Every gap the rule allows is some oracle's answer. -/
theorem napEnd_eq_add {s : State} (h0 : 0 ≤ s.oracle.nap) (h1 : s.oracle.nap ≤ s.par.pollInterval) :
    napEnd s = s.clock + s.oracle.nap := by
  rw [napEnd, min_eq_right h1, max_eq_right h0]

/-- Whatever the oracle answers, the gap is one the rule allows. -/
theorem exists_napEnd_eq_add {s : State} (h : 0 ≤ s.par.pollInterval) :
    ∃ d, 0 ≤ d ∧ d ≤ s.par.pollInterval ∧ napEnd s = s.clock + d :=
  ⟨max 0 (min s.par.pollInterval s.oracle.nap), le_max_left _ _, max_le h (min_le_left _ _), rfl⟩

/-! ## The obligations -/

/-- Settles O5: fetching such bytes answers the operation itself. -/
theorem stepRunsTheDecodedOperation : Obligations.StepRunsTheDecodedOperation := by
  intro s ch o bytes rest i hs hd hc
  exact step_op hs (fetch_of_decode hd hc)

/-- Settles O6, a kind of move at a time. -/
theorem stepRunsOneAgent : Obligations.StepRunsOneAgent := by
  intro s rest
  refine ⟨step_nil, ?app, ?isr, ?long, ?radio, ?elapse, ?boot⟩
  case app =>
    intro o st hs ha
    rw [step_move hs nofun]
    exact congrArg Host.Outcome.next (appStep_busy ha)
  case isr =>
    intro o k st hs hk hl
    rw [step_move hs nofun]
    exact isrStep_live hk hl
  case long =>
    intro o bytes hs hlen
    exact step_unreceived hs (fetch_longFrame hlen)
  case radio =>
    intro e hs
    exact step_move hs nofun
  case elapse =>
    intro d hs
    exact step_move hs nofun
  case boot =>
    intro ok hs
    exact ⟨boot ok (s.setScript rest), step_move hs nofun, rfl, rfl, rfl, rfl, rfl, rfl⟩

/-- Settles O8: each operation's gate refuses what the common gate or, for INIT, its own refuses. -/
theorem commandsRefusedOutOfTurn : Obligations.CommandsRefusedOutOfTurn := by
  intro i s hf
  refine ⟨?busy, ?closed, ?failed, ?absent, ?live⟩
  case busy =>
    intro st ha
    exact exec_refused hf (opGate_eq_some (gate_busy ha) fun _ _ => initGate_busy ha)
  case closed =>
    intro ha hl
    exact exec_refused hf (opGate_eq_some (gate_closed ha hl) fun _ _ => initGate_closed ha hl)
  case failed =>
    intro ha hl
    exact exec_refused hf (opGate_eq_some (gate_failed ha hl) fun _ _ => initGate_failed ha hl)
  case absent =>
    intro ha hl hi
    exact exec_refused hf (opGate_eq_some (gate_absent ha hl) fun a h => absurd h (hi a))
  case live =>
    rintro ha hl a rfl
    exact exec_refused hf (initGate_live ha hl)

/-- Settles O25: asleep nothing happens; awake, a sample in the four cases of R14, and after P2 the pause. -/
theorem waitUntilSamples : Obligations.WaitUntilSamples := by
  intro s c bound t0 wake ha
  refine ⟨appStep_wait_asleep ha, fun hw => ?_⟩
  rw [appStep_wait_awake ha hw]
  refine ⟨fun hc hb => ?_, fun hc hb => ?_, fun hc hb => ?_, fun hc hb => ?_⟩
  · rw [waitSample_holds_early hc hb]; rfl
  · rw [waitSample_fails_late hc hb]; rfl
  · rw [waitSample_holds_late hc hb]; rfl
  · rw [waitSample_fails_early hc hb]
    refine ⟨_, rfl, rfl, fun d h0 hd => ?gap, fun hp => ?pause⟩
    case gap =>
      rw [appStep_wait_nap rfl, napEnd_eq_add h0 hd]; rfl
    case pause =>
      obtain ⟨d, h0, hd, hn⟩ := exists_napEnd_eq_add (s := s) hp
      exact ⟨d, h0, hd, hn ▸ appStep_wait_nap rfl⟩

end Sys2Proof.Machine
end

section
/-! PROOFS. What a step does to a machine whose control state fits, said once for the invariants of spec/10_state.md (O55 to O60): which agent takes it, in which operation, and from which bytes. -/

namespace Sys2Proof.Machine

/-! ## Bytes that are no record and no frame -/

theorem readThen_ne_short {α β : Type} {r : Read α} {k : α → Bytes → Read β} (hr : r ≠ .error .shortFrame)
    (hk : ∀ a bs, k a bs ≠ .error .shortFrame) : readThen r k ≠ .error .shortFrame := by
  cases r with
  | error e => simpa using hr
  | ok v => exact hk v.1 v.2

theorem readByte_ne_short (bs : Bytes) : readByte bs ≠ .error .shortFrame := by
  cases bs <;> simp [readByte]

theorem readBool_ne_short (bs : Bytes) : readBool bs ≠ .error .shortFrame := by
  fun_cases readBool bs <;> simp

theorem readNat_ne_short (bs : Bytes) : readNat bs ≠ .error .shortFrame := by
  fun_induction readNat bs <;> simp_all

theorem readBytes_ne_short (bs : Bytes) : readBytes bs ≠ .error .shortFrame :=
  readThen_ne_short (readNat_ne_short bs) fun n bs => by unfold readExactly; split <;> simp

theorem readInt_ne_short (bs : Bytes) : readInt bs ≠ .error .shortFrame :=
  readThen_ne_short (readByte_ne_short bs) fun sgn bs => readThen_ne_short (readNat_ne_short bs) fun n bs => by
    split
    · simp
    · split <;> simp

theorem readRat_ne_short (bs : Bytes) : readRat bs ≠ .error .shortFrame :=
  readThen_ne_short (readNat_ne_short bs) fun num bs => readThen_ne_short (readNat_ne_short bs) fun den bs => by
    split <;> simp

theorem readOptHandle_ne_short (bs : Bytes) : readOptHandle bs ≠ .error .shortFrame :=
  readThen_ne_short (readNat_ne_short bs) fun n bs => by cases n <;> simp

theorem readInit_ne_short (bs : Bytes) : readInit bs ≠ .error .shortFrame :=
  readThen_ne_short (readNat_ne_short bs) fun _ bs => readThen_ne_short (readNat_ne_short bs) fun _ bs =>
  readThen_ne_short (readByte_ne_short bs) fun _ bs => readThen_ne_short (readRat_ne_short bs) fun _ bs =>
  readThen_ne_short (readInt_ne_short bs) fun _ bs => readThen_ne_short (readNat_ne_short bs) fun _ bs =>
  readThen_ne_short (readBool_ne_short bs) fun _ bs => readThen_ne_short (readOptHandle_ne_short bs) fun _ _ => nofun

theorem readSend_ne_short (bs : Bytes) : readSend bs ≠ .error .shortFrame :=
  readThen_ne_short (readBytes_ne_short bs) fun _ bs => readThen_ne_short (readByte_ne_short bs) fun _ bs =>
  readThen_ne_short (readByte_ne_short bs) fun _ bs => readThen_ne_short (readByte_ne_short bs) fun _ _ => nofun

theorem readSendToWait_ne_short (bs : Bytes) : readSendToWait bs ≠ .error .shortFrame :=
  readThen_ne_short (readBytes_ne_short bs) fun _ bs => readThen_ne_short (readByte_ne_short bs) fun _ bs =>
  readThen_ne_short (readByte_ne_short bs) fun _ bs => readThen_ne_short (readNat_ne_short bs) fun _ _ => nofun

theorem readHdrBuild_ne_short (bs : Bytes) : readHdrBuild bs ≠ .error .shortFrame :=
  readThen_ne_short (readByte_ne_short bs) fun _ bs => readThen_ne_short (readByte_ne_short bs) fun _ bs =>
  readThen_ne_short (readByte_ne_short bs) fun _ bs => readThen_ne_short (readByte_ne_short bs) fun _ bs =>
  readThen_ne_short (readBytes_ne_short bs) fun _ _ => nofun

/-- No command record is rejected as a short frame: only a packet can be one (R91, R95). -/
theorem readOperands_ne_short (code : Byte) (bs : Bytes) : readOperands code bs ≠ .error .shortFrame := by
  unfold readOperands
  split
  case h_1 => exact readInit_ne_short bs
  case h_3 => exact readSend_ne_short bs
  case h_4 => exact readSendToWait_ne_short bs
  case h_14 => exact readHdrBuild_ne_short bs
  all_goals simp [readThen_ne_short, readByte_ne_short, readNat_ne_short, readBytes_ne_short]

theorem decodeRecord_ne_short (bs : Bytes) : decodeRecord bs ≠ .error .shortFrame := by
  have hp : decodePrefix bs ≠ .error .shortFrame := by
    cases bs with
    | nil => simp [decodePrefix]
    | cons code bs => exact readOperands_ne_short code bs
  unfold decodeRecord
  split <;> simp_all

theorem decodeFrame_short {bs : Bytes} (h : decodeFrame bs = .error .shortFrame) : bs.length < 4 := by
  match bs with
  | [] | [_] | [_, _] | [_, _, _] => simp
  | dst :: src :: ident :: flags :: body =>
    simp only [decodeFrame] at h
    split at h
    · cases h
    · split at h <;> cases h

/-- A packet too short to be a frame has fewer than 4 bytes. -/
theorem fetch_shortPacket {ch : Channel} {bytes packet : Bytes} (h : fetch ch bytes = .shortPacket packet) :
    packet.length < 4 := by
  have hd : decode ch bytes = .error .shortFrame ∧ packet = bytes := by
    unfold fetch at h
    split at h
    · cases h
    · split at h
      · rename_i hd; cases h; exact ⟨hd, rfl⟩
      · cases h
      · cases h
      · split at h <;> cases h
  obtain ⟨hd, rfl⟩ := hd
  cases ch with
  | air => exact decodeFrame_short hd
  | _ => exact absurd hd (decodeRecord_ne_short packet)

/-- A decoded frame has at most 255 bytes (R80). -/
theorem decodeFrame_length {bytes : Bytes} {i : Instr} (h : decodeFrame bytes = .ok i) : (encode i).length ≤ 255 := by
  unfold decodeFrame at h
  split at h
  · split at h
    · cases h
    · split at h <;> cases h <;> simp [encode] <;> omega
  · cases h

/-! ## The beginning of an operation -/

/-- The operation that a command of several steps puts on APP. -/
def firstFrame (i : Instr) (s : State) : Option Frame :=
  match i with
  | .init a => some (.init .y1 a)
  | .send payload dest ident flags => some (.send .s0 ⟨payload, dest, ident, flags⟩ [])
  | .sendToWait payload dest flags retries => some (.sendToWait .w0 ⟨payload, dest, flags, retries⟩ 0 0)
  | .close => some (.close .x1)
  | .setCad => some (.setCad .m1 s.clock)
  | .sendAck dest ident => some (.sendAck .a1 dest ident)
  | .waitPacketSent => some (.wait .p0 .modeNotTx s.cfg.waitPacketSentTimeout s.clock s.clock)
  | .waitCad => some (.waitCad .k0 s.clock s.clock)
  | _ => none

/-- `ExecEffect` with the operation that has the effect. -/
inductive OpEffect (s : State) : Instr → State → Prop where
  | begins (i : Instr) (f : Frame) (first : firstFrame i s = some f) (passed : opGate i s = none) :
      OpEffect s i (settleApp (stepStack [f] s))
  | whole (i : Instr) (v : Value) (u : State) (ready : s.app = .idle ∧ s.life = .live) (effect : LeafEffect [] s u) :
      OpEffect s i (answer v u)
  | seqNext (ready : s.app = .idle ∧ s.life = .live) :
      OpEffect s .seqNext (answer (.byte (nextId s.lastHeaderId)) (s.setSeq (nextId s.lastHeaderId)))
  | callback (c : Handle) (ready : s.app = .idle ∧ s.life = .live) :
      OpEffect s (.onReceive c) (answer .unit (s.setCallback c))
  | edge : OpEffect s .irq (takeEdge s)
  | packet (i : Instr) (frame : i.format = .frame) : OpEffect s i (handlePacket (encode i) s)

theorem exec_opEffect {i : Instr} {s t : State} (h : exec i s = .next t) : OpEffect s i t := by
  cases i with
  | onReceive c =>
    obtain ⟨g, rfl⟩ := guarded_next h
    exact .callback c (gate_eq_none.mp g)
  | seqNext =>
    obtain ⟨g, rfl⟩ := guarded_next h
    exact .seqNext (gate_eq_none.mp g)
  | irq => cases h; exact .edge
  | frameData dst src ident reserved body => cases h; exact .packet (.frameData dst src ident reserved body) rfl
  | frameAck dst src ident reserved body => cases h; exact .packet (.frameAck dst src ident reserved body) rfl
  | setIdle =>
    obtain ⟨g, rfl⟩ := guarded_next h
    exact .whole _ _ _ (gate_eq_none.mp g) .idle
  | setTx =>
    obtain ⟨g, rfl⟩ := guarded_next h
    exact .whole _ _ _ (gate_eq_none.mp g) .tx
  | setRx =>
    obtain ⟨g, rfl⟩ := guarded_next h
    exact .whole _ _ _ (gate_eq_none.mp g) .rx
  | sleep =>
    obtain ⟨g, rfl⟩ := guarded_next h
    exact .whole _ _ _ (gate_eq_none.mp g) .sleep
  | encWrap | encUnwrap =>
    obtain ⟨g, rfl⟩ := guarded_next h
    obtain ⟨ready, -⟩ := codecGate_eq_none.mp g
    exact .whole _ _ _ ready .same
  | hdrBuild | hdrParse | addrAccept | flagIsAck | ackMatch | sigMetrics =>
    obtain ⟨g, rfl⟩ := guarded_next h
    exact .whole _ _ _ (gate_eq_none.mp g) .same
  | init | send | sendToWait | close | setCad | sendAck | waitPacketSent | waitCad =>
    obtain ⟨g, rfl⟩ := guarded_next h
    exact .begins _ _ rfl g

/-- The operations APP can be running in a state whose control fits, and the one a command puts on it. -/
inductive AppRuns (s : State) : Stack → Prop where
  | command (st : Stack) (live : s.life = .live) (kind : st.all isAppFrame = true) : AppRuns s st
  | closing (l : CloseLabel) (live : s.life = .live) : AppRuns s [.close l]
  | initY1 (a : InitArgs) (absent : s.life = .absent) (noIsrs : s.isrs = []) : AppRuns s [.init .y1 a]
  | initY2 (a : InitArgs) (constructing : s.life = .constructing) (noIsrs : s.isrs = []) : AppRuns s [.init .y2 a]
  | initY3 (a : InitArgs) (constructing : s.life = .constructing) (noIsrs : s.isrs = []) (asleep : s.mode = .sleep) :
      AppRuns s [.init .y3 a]

/-! ## The control state in each life -/

theorem controlFits_nothing {s : State} (h : s.life = .absent ∨ s.life = .failed) :
    controlFits s ↔ s.app = .idle ∧ s.isrs = [] := by
  rcases h with h | h <;> simp [controlFits, h]

theorem controlFits_constructing {s : State} (h : s.life = .constructing) :
    controlFits s ↔
      s.isrs = [] ∧ ∃ a, s.app = .busy [.init .y2 a] ∨ (s.app = .busy [.init .y3 a] ∧ s.mode = .sleep) := by
  simp [controlFits, h]

theorem controlFits_live {s : State} (h : s.life = .live) :
    controlFits s ↔
      isrsFit s = true ∧
        (s.app = .idle ∨ s.app = .busy [.close .x2] ∨ ∃ st, s.app = .busy st ∧ st.all isAppFrame = true) := by
  simp [controlFits, h]

theorem controlFits_closed {s : State} (h : s.life = .closed) :
    controlFits s ↔ isrsFit s = true ∧ s.app = .idle := by
  simp [controlFits, h]

theorem controlFits_isrsFit {s : State} (h : controlFits s) : isrsFit s = true := by
  cases hl : s.life with
  | absent => simp [isrsFit, ((controlFits_nothing (.inl hl)).mp h).2]
  | failed => simp [isrsFit, ((controlFits_nothing (.inr hl)).mp h).2]
  | constructing => simp [isrsFit, ((controlFits_constructing hl).mp h).1]
  | live => exact ((controlFits_live hl).mp h).1
  | closed => exact ((controlFits_closed hl).mp h).1

/-- Only a live or a closed block can have invocations. -/
theorem controlFits_isrs {s : State} (h : controlFits s) (hl : s.life ≠ .live) (hc : s.life ≠ .closed) :
    s.isrs = [] := by
  cases hs : s.life with
  | absent => exact ((controlFits_nothing (.inl hs)).mp h).2
  | failed => exact ((controlFits_nothing (.inr hs)).mp h).2
  | constructing => exact ((controlFits_constructing hs).mp h).1
  | live => exact absurd hs hl
  | closed => exact absurd hs hc

theorem appRuns_of_busy {s : State} {st : Stack} (h : controlFits s) (busy : s.app = .busy st) : AppRuns s st := by
  cases hl : s.life with
  | absent => cases busy ▸ ((controlFits_nothing (.inl hl)).mp h).1
  | failed => cases busy ▸ ((controlFits_nothing (.inr hl)).mp h).1
  | closed => cases busy ▸ ((controlFits_closed hl).mp h).2
  | constructing =>
    obtain ⟨noIsrs, a, ha | ⟨ha, asleep⟩⟩ := (controlFits_constructing hl).mp h
    · cases busy.symm.trans ha; exact .initY2 a hl noIsrs
    · cases busy.symm.trans ha; exact .initY3 a hl noIsrs asleep
  | live =>
    obtain ⟨-, ha | ha | ⟨st', ha, kind⟩⟩ := (controlFits_live hl).mp h
    · cases busy.symm.trans ha
    · cases busy.symm.trans ha; exact .closing .x2 hl
    · cases busy.symm.trans ha; exact .command st hl kind

/-- What begins on APP is of a kind that fits the block's life. -/
theorem appRuns_of_first {i : Instr} {s : State} {f : Frame} (h : controlFits s) (first : firstFrame i s = some f)
    (passed : opGate i s = none) : AppRuns s [f] := by
  cases i with
  | init a =>
    cases first
    obtain ⟨-, absent⟩ := initGate_eq_none.mp passed
    exact .initY1 a absent ((controlFits_nothing (.inl absent)).mp h).2
  | close =>
    cases first
    obtain ⟨-, live, -⟩ := closeGate_eq_none.mp passed
    exact .closing .x1 live
  | send | sendToWait | setCad | sendAck | waitPacketSent | waitCad =>
    cases first
    obtain ⟨-, live⟩ := gate_eq_none.mp passed
    exact .command _ live rfl
  | _ => cases first

/-! ## A received packet -/

theorem irqParse_cases (x : IrqLocals) (st : Stack) (s : State) :
    irqParse x st s = .go (.irq .h5 x :: st) (s.emit (.drop .malformedPacket)) ∨
    ∃ h, hdrParse x.buf = some h ∧ irqParse x st s = .go (.irq .h2e { x with hdr := h } :: st) s := by
  unfold irqParse
  split
  · exact .inl rfl
  · rename_i h hp; exact .inr ⟨h, hp, rfl⟩

/-- A received packet starts one invocation on a live block, perhaps with a label; any other changes nothing. -/
theorem handlePacket_effect (bytes : Bytes) (s : State) :
    handlePacket bytes s = s ∨
    s.life = .live ∧ ∃ l x u, irqParse (packetLocals bytes s) [] s = .go [.irq l x] u ∧
      handlePacket bytes s = u.setIsrs (s.isrs ++ [[.irq l x]]) ∧ (u = s ∨ u = s.emit (.drop .malformedPacket)) := by
  rcases handlePacket_cases bytes s with ⟨-, h⟩ | ⟨received, h⟩
  · exact .inl h
  · obtain ⟨live, -⟩ := receives_eq_true.mp received
    refine .inr ⟨live, ?_⟩
    rcases irqParse_cases (packetLocals bytes s) [] s with hp | ⟨hdr, -, hp⟩
    · rw [hp] at h; exact ⟨_, _, _, hp, h, .inr rfl⟩
    · rw [hp] at h; exact ⟨_, _, _, hp, h, .inl rfl⟩

/-! ## The step of the machine -/

/-- Everything a step can be where the control state fits: who takes it, and from which bytes. -/
inductive FitStep (s : State) : State → Prop where
  /-- Nothing, or time passes. -/
  | quiet (rest : List Move) (o : Oracle) (c : Time) : FitStep s (((s.setScript rest).setOracle o).setClock c)
  | app (o : Oracle) (rest : List Move) (st : Stack) (h : s.script = .app o :: rest) (busy : s.app = .busy st)
      (runs : AppRuns ((s.setScript rest).setOracle o) st) : FitStep s (settleApp (stepStack st ((s.setScript rest).setOracle o)))
  | isr (k : Nat) (o : Oracle) (rest : List Move) (st : Stack) (h : s.script = .isr k o :: rest)
      (here : s.isrs[k]? = some st) (live : s.life = .live) (kind : st.all isIsrFrame = true) :
      FitStep s (settleIsr k (stepStack st ((s.setScript rest).setOracle o)))
  | begins (ch : Channel) (o : Oracle) (bytes : Bytes) (rest : List Move) (i : Instr) (f : Frame)
      (h : s.script = .present ch o bytes :: rest) (first : firstFrame i ((s.setScript rest).setOracle o) = some f)
      (runs : AppRuns ((s.setScript rest).setOracle o) [f]) :
      FitStep s (settleApp (stepStack [f] ((s.setScript rest).setOracle o)))
  | whole (ch : Channel) (o : Oracle) (bytes : Bytes) (rest : List Move) (v : Value) (u : State)
      (h : s.script = .present ch o bytes :: rest) (live : s.life = .live)
      (effect : LeafEffect [] ((s.setScript rest).setOracle o) u) : FitStep s (answer v u)
  | seqNext (ch : Channel) (o : Oracle) (bytes : Bytes) (rest : List Move) (v : Value)
      (h : s.script = .present ch o bytes :: rest) (d : decode ch bytes = .ok .seqNext) :
      FitStep s (answer v (((s.setScript rest).setOracle o).setSeq (nextId s.lastHeaderId)))
  | callback (ch : Channel) (o : Oracle) (bytes : Bytes) (rest : List Move) (v : Value) (c : Handle)
      (h : s.script = .present ch o bytes :: rest) (d : decode ch bytes = .ok (.onReceive c)) :
      FitStep s (answer v (((s.setScript rest).setOracle o).setCallback c))
  | edge (o : Oracle) (rest : List Move) : FitStep s (takeEdge ((s.setScript rest).setOracle o))
  | packet (o : Oracle) (rest : List Move) (bytes : Bytes) (short : bytes.length ≤ 255) :
      FitStep s (handlePacket bytes ((s.setScript rest).setOracle o))
  | radio (e : RadioEvent) (rest : List Move) : FitStep s (radioStep e (s.setScript rest))
  | boot (ok : Bool) (rest : List Move) : FitStep s (boot ok (s.setScript rest))

theorem step_fitStep {s t : State} (fits : controlFits s) (h : step s = .next t) : FitStep s t := by
  cases step_effect h with
  | stay => exact .quiet s.script s.oracle s.clock
  | short ch o bytes packet rest _ hf =>
    have := fetch_shortPacket hf
    exact .packet o rest packet (by omega)
  | unreceived ch o bytes rest => exact .quiet rest o s.clock
  | noIsr k o rest => exact .quiet rest o s.clock
  | radio e rest => exact .radio e rest
  | elapse d rest => exact .quiet rest s.oracle _
  | boot ok rest => exact .boot ok rest
  | app o rest hs =>
    cases ha : s.app with
    | idle =>
      have : appStep ((s.setScript rest).setOracle o) = (s.setScript rest).setOracle o := by simp [appStep, ha]
      rw [this]; exact .quiet rest o s.clock
    | busy st =>
      rw [appStep_busy (s := (s.setScript rest).setOracle o) ha]
      exact .app o rest st hs ha (appRuns_of_busy (s := (s.setScript rest).setOracle o) fits ha)
  | isr k o rest st hs here notClosed =>
    have live : s.life = .live := by
      by_contra hl
      simp [controlFits_isrs fits hl notClosed] at here
    have kind : st.all isIsrFrame = true :=
      List.all_eq_true.mp (controlFits_isrsFit fits) st (List.mem_of_getElem? here)
    exact .isr k o rest st hs here live kind
  | arrive ch o bytes rest i _ hs hf he =>
    obtain ⟨hd, hch⟩ := fetch_eq_op hf
    cases exec_opEffect he with
    | begins _ f first passed =>
      exact .begins ch o bytes rest i f hs first (appRuns_of_first fits first passed)
    | whole _ v u ready effect => exact .whole ch o bytes rest v u hs ready.2 effect
    | seqNext => exact .seqNext ch o bytes rest _ hs hd
    | callback c => exact .callback ch o bytes rest _ c hs hd
    | edge => exact .edge o rest
    | packet _ frame =>
      have : ch = .air := by rw [← hch, frame]; rfl
      subst this
      exact .packet o rest _ (decodeFrame_length hd)

end Sys2Proof.Machine
end

section
/-! PROOFS. The control state fits the block's life at every step (O55). -/

namespace Sys2Proof.Machine

/-! ## The steps of INIT and CLOSE -/

@[simp] theorem stepStack_initY1 (a : InitArgs) (s : State) :
    stepStack [.init .y1 a] s =
      if s.hwInitOk then .go [.init .y2 a] (s.setLife .constructing)
      else .done (.raised .hardwareInitError) (s.setLife .failed) := rfl

@[simp] theorem stepStack_initY2 (a : InitArgs) (s : State) :
    stepStack [.init .y2 a] s = .go [.init .y3 a] (initFields a s) := rfl

@[simp] theorem stepStack_initY3 (a : InitArgs) (s : State) :
    stepStack [.init .y3 a] s = .done .unit (s.setLife .live) := rfl

@[simp] theorem stepStack_closeX1 (s : State) : stepStack [.close .x1] s = .go [.close .x2] (sleepMode s) := rfl

@[simp] theorem stepStack_closeX2 (s : State) : stepStack [.close .x2] s = .done .unit (s.setLife .closed) := rfl

/-! ## What each kind of step keeps -/

@[simp] theorem handlePacket_life (bytes : Bytes) (s : State) : (handlePacket bytes s).life = s.life := by
  rcases handlePacket_effect bytes s with h | ⟨-, l, x, u, -, h, rfl | rfl⟩ <;> rw [h] <;> rfl

@[simp] theorem handlePacket_app (bytes : Bytes) (s : State) : (handlePacket bytes s).app = s.app := by
  rcases handlePacket_effect bytes s with h | ⟨-, l, x, u, -, h, rfl | rfl⟩ <;> rw [h] <;> rfl

@[simp] theorem handlePacket_mode (bytes : Bytes) (s : State) : (handlePacket bytes s).mode = s.mode := by
  rcases handlePacket_effect bytes s with h | ⟨-, l, x, u, -, h, rfl | rfl⟩ <;> rw [h] <;> rfl

/-- No effect of a step is one on APP's control state: only `settleApp` writes it. -/
theorem LeafEffect_app {st : Stack} {s t : State} (e : LeafEffect st s t) : t.app = s.app := by
  cases e <;> simp [initFields]

/-- Only INIT and CLOSE write the block's life. -/
theorem LeafEffect_life {st : Stack} {s t : State} (e : LeafEffect st s t) (ninit : ∀ l a r, st ≠ .init l a :: r)
    (nclose : ∀ l r, st ≠ .close l :: r) : t.life = s.life := by
  cases e with
  | life l h =>
    rcases h with ⟨i, a, r, h⟩ | ⟨c, r, h⟩
    · exact absurd h (ninit i a r)
    · exact absurd h (nclose c r)
  | _ => simp [initFields]

/-- Invocations come and go on a live block only, and what comes is a handler's. -/
theorem controlFits_of_isrs {s t : State} (life : t.life = s.life) (app : t.app = s.app) (mode : t.mode = s.mode)
    (same : s.life ≠ .live → t.isrs = s.isrs) (kept : isrsFit s = true → isrsFit t = true) (h : controlFits s) :
    controlFits t := by
  have fit := kept (controlFits_isrsFit h)
  cases hl : s.life <;> simp_all [controlFits]

theorem takeEdge_of_not_live {s : State} (h : s.life ≠ .live) : takeEdge s = s := by
  unfold takeEdge; split <;> simp_all

theorem takeEdge_controlFits {s : State} (h : controlFits s) : controlFits (takeEdge s) :=
  controlFits_of_isrs (takeEdge_life s) (takeEdge_app s) (takeEdge_mode s)
    (fun hl => by rw [takeEdge_of_not_live hl]) takeEdge_isrsFit h

theorem handlePacket_controlFits {bytes : Bytes} {s : State} (h : controlFits s) :
    controlFits (handlePacket bytes s) := by
  rcases handlePacket_effect bytes s with hp | ⟨live, l, x, u, -, hp, -⟩
  · rwa [hp]
  · refine controlFits_of_isrs (by simp) (by simp) (by simp) (absurd live) (fun fit => ?_) h
    unfold isrsFit at *
    simp [hp, fit, isIsrFrame]

theorem raiseFlag_controlFits {src : IrqSource} {s : State} (h : controlFits s) : controlFits (raiseFlag src s) := by
  unfold raiseFlag
  dsimp only
  split
  · exact takeEdge_controlFits h
  · exact h

theorem radioRests_controlFits {stays : Bool} {s : State} (h : controlFits s) : controlFits (radioRests stays s) := by
  unfold radioRests
  split <;> exact h

theorem radioStep_controlFits {e : RadioEvent} {s : State} (h : controlFits s) : controlFits (radioStep e s) := by
  unfold radioStep
  split <;> split
  case h_1.isTrue => exact raiseFlag_controlFits (radioRests_controlFits h)
  case h_2.isTrue => exact raiseFlag_controlFits h
  case h_3.isTrue => exact raiseFlag_controlFits (radioRests_controlFits h)
  all_goals exact h

@[simp] theorem settleApp_life (T : Turn) : (settleApp T).life = (turnState T).life := by
  cases T <;> rfl

@[simp] theorem settleApp_isrs (T : Turn) : (settleApp T).isrs = (turnState T).isrs := by
  cases T <;> rfl

/-- A step of a command on a live block stays one. -/
theorem settleApp_command_controlFits {s : State} {st : Stack} (fit : isrsFit s = true) (live : s.life = .live)
    (kind : st.all isAppFrame = true) : controlFits (settleApp (stepStack st s)) := by
  have hlife : (settleApp (stepStack st s)).life = .live := by
    rw [settleApp_life, stepStack_life isAppFrame_kind st s kind, live]
  have hisrs : isrsFit (settleApp (stepStack st s)) = true :=
    isrsFit_of_isrs (settleApp_isrs _) (LeafEffect_isrsFit (stepStack_effect st s) fit)
  refine (controlFits_live hlife).mpr ⟨hisrs, ?_⟩
  have hkind := stepStack_kind isAppFrame_kind st s kind
  cases hT : stepStack st s with
  | go st' u => exact .inr (.inr ⟨st', rfl, by simpa [hT, turnStackAll] using hkind⟩)
  | done v u => exact .inl rfl

/-- A step of APP: INIT and CLOSE go through their lives, a command stays one on a live block. -/
theorem settleApp_controlFits {s : State} {st : Stack} (fit : isrsFit s = true) (runs : AppRuns s st) :
    controlFits (settleApp (stepStack st s)) := by
  cases runs with
  | command st live kind => exact settleApp_command_controlFits fit live kind
  | closing l live =>
    cases l with
    | x1 =>
      have hlife : (settleApp (stepStack [.close .x1] s)).life = .live := by simp [live]
      have hisrs : isrsFit (sleepMode s) = true := LeafEffect_isrsFit (LeafEffect.sleep (st := [])) fit
      exact (controlFits_live hlife).mpr ⟨hisrs, .inr (.inl rfl)⟩
    | x2 => exact (controlFits_closed rfl).mpr ⟨fit, rfl⟩
  | initY1 a absent noIsrs =>
    rw [stepStack_initY1]
    split
    · exact (controlFits_constructing rfl).mpr ⟨noIsrs, a, .inl rfl⟩
    · exact (controlFits_nothing (.inr rfl)).mpr ⟨rfl, noIsrs⟩
  | initY2 a constructing noIsrs =>
    have hlife : (settleApp (stepStack [.init .y2 a] s)).life = .constructing := constructing
    exact (controlFits_constructing hlife).mpr ⟨noIsrs, a, .inr ⟨rfl, rfl⟩⟩
  | initY3 a => exact (controlFits_live rfl).mpr ⟨fit, .inl rfl⟩

@[simp] theorem settleIsr_life (k : Nat) (T : Turn) : (settleIsr k T).life = (turnState T).life := by
  cases T <;> simp [settleIsr]

@[simp] theorem settleIsr_app (k : Nat) (T : Turn) : (settleIsr k T).app = (turnState T).app := by
  cases T <;> simp [settleIsr]

/-- A handler's step on a live block leaves APP and the life, and runs handler operations on. -/
theorem settleIsr_controlFits {s : State} {k : Nat} {st : Stack} (h : controlFits s) (here : s.isrs[k]? = some st)
    (live : s.life = .live) (kind : st.all isIsrFrame = true) : controlFits (settleIsr k (stepStack st s)) := by
  obtain ⟨fit, app⟩ := (controlFits_live live).mp h
  have hlife : (settleIsr k (stepStack st s)).life = .live := by
    rw [settleIsr_life, stepStack_life isIsrFrame_kind st s kind, live]
  have happ : (settleIsr k (stepStack st s)).app = s.app := by
    rw [settleIsr_app, LeafEffect_app (stepStack_effect st s)]
  exact (controlFits_live hlife).mpr ⟨settleIsr_isrsFit fit here, happ ▸ app⟩

/-- An operation of one step leaves APP, its invocations of their kind, and the life. -/
theorem whole_controlFits {s u : State} {v : Value} (h : controlFits s) (live : s.life = .live)
    (effect : LeafEffect [] s u) : controlFits (answer v u) := by
  obtain ⟨fit, app⟩ := (controlFits_live live).mp h
  have hlife : (answer v u).life = .live := (LeafEffect_life effect (fun _ _ _ => nofun) (fun _ _ => nofun)).trans live
  have happ : u.app = s.app := LeafEffect_app effect
  have hisrs : isrsFit u = true := LeafEffect_isrsFit effect fit
  exact (controlFits_live hlife).mpr ⟨hisrs, by rwa [answer, State.emit_app, happ]⟩

/-- Settles O55, over everything a step can be where the control state fits. -/
theorem stepKeepsControlFitting : Obligations.StepKeepsControlFitting := by
  intro s t h hs
  cases step_fitStep h hs with
  | quiet => exact h
  | app _ _ st _ _ runs => exact settleApp_controlFits (controlFits_isrsFit h) runs
  | isr _ _ _ _ _ here live kind => exact settleIsr_controlFits h here live kind
  | begins _ _ _ _ _ _ _ _ runs => exact settleApp_controlFits (controlFits_isrsFit h) runs
  | whole _ o _ rest _ _ _ live effect => exact whole_controlFits (s := (s.setScript rest).setOracle o) h live effect
  | seqNext => exact h
  | callback => exact h
  | edge => exact takeEdge_controlFits h
  | packet => exact handlePacket_controlFits h
  | radio => exact radioStep_controlFits h
  | boot => exact (controlFits_nothing (.inl rfl)).mpr ⟨rfl, rfl⟩

end Sys2Proof.Machine
end

section
/-! PROOFS. What a step leaves of the block's registers and of the radio: the radio in the recorded mode (O56), the fixed configuration (O59), the handler's registers (O60). -/

namespace Sys2Proof.Machine

/-! ## The registers, apart from control and radio -/

/-- Two states with the same registers, parameters and life: they differ in control, radio, time and inputs only. -/
structure SameRegisters (s t : State) : Prop where
  par : t.par = s.par
  life : t.life = s.life
  hwInitOk : t.hwInitOk = s.hwInitOk
  thisAddress : t.thisAddress = s.thisAddress
  mode : t.mode = s.mode
  cadDetected : t.cadDetected = s.cadDetected
  lastHeaderId : t.lastHeaderId = s.lastHeaderId
  lastReceivedPayload : t.lastReceivedPayload = s.lastReceivedPayload
  receiveCallback : t.receiveCallback = s.receiveCallback
  cfg : t.cfg = s.cfg

theorem SameRegisters.refl (s : State) : SameRegisters s s := by
  constructor <;> rfl

theorem SameRegisters.trans {s t u : State} (h : SameRegisters s t) (h' : SameRegisters t u) : SameRegisters s u where
  par := h'.par.trans h.par
  life := h'.life.trans h.life
  hwInitOk := h'.hwInitOk.trans h.hwInitOk
  thisAddress := h'.thisAddress.trans h.thisAddress
  mode := h'.mode.trans h.mode
  cadDetected := h'.cadDetected.trans h.cadDetected
  lastHeaderId := h'.lastHeaderId.trans h.lastHeaderId
  lastReceivedPayload := h'.lastReceivedPayload.trans h.lastReceivedPayload
  receiveCallback := h'.receiveCallback.trans h.receiveCallback
  cfg := h'.cfg.trans h.cfg

theorem setRadio_registers (s : State) (r : Radio) : SameRegisters s (s.setRadio r) := by
  constructor <;> rfl

theorem settleApp_registers (T : Turn) : SameRegisters (turnState T) (settleApp T) := by
  cases T <;> constructor <;> rfl

theorem settleIsr_registers (k : Nat) (T : Turn) : SameRegisters (turnState T) (settleIsr k T) := by
  cases T <;> constructor <;> simp [settleIsr]

theorem takeEdge_registers (s : State) : SameRegisters s (takeEdge s) := by
  constructor <;> simp

theorem handlePacket_registers (bytes : Bytes) (s : State) : SameRegisters s (handlePacket bytes s) := by
  rcases handlePacket_effect bytes s with h | ⟨-, l, x, u, -, h, rfl | rfl⟩ <;> rw [h] <;> constructor <;> rfl

theorem raiseFlag_registers (src : IrqSource) (s : State) : SameRegisters s (raiseFlag src s) := by
  unfold raiseFlag
  dsimp only
  split
  · exact (setRadio_registers s _).trans (takeEdge_registers _)
  · exact setRadio_registers s _

theorem radioStep_registers (e : RadioEvent) (s : State) : SameRegisters s (radioStep e s) := by
  have rests : ∀ stays u, SameRegisters u (radioRests stays u) := by
    intro stays u
    cases stays <;> constructor <;> rfl
  have raised : ∀ src u, SameRegisters s u → SameRegisters s (raiseFlag src u) :=
    fun src u hu => hu.trans (raiseFlag_registers src u)
  unfold radioStep
  split <;> split
  case h_1.isTrue => exact raised _ _ (rests _ s)
  case h_2.isTrue => exact raised _ _ (setRadio_registers s _)
  case h_3.isTrue => exact raised _ _ ((setRadio_registers s _).trans (rests _ _))
  all_goals exact .refl s

@[simp] theorem settleApp_radio (T : Turn) : (settleApp T).radio = (turnState T).radio := by
  cases T <;> rfl

@[simp] theorem settleIsr_radio (k : Nat) (T : Turn) : (settleIsr k T).radio = (turnState T).radio := by
  cases T <;> simp [settleIsr]

@[simp] theorem handlePacket_radio (bytes : Bytes) (s : State) : (handlePacket bytes s).radio = s.radio := by
  rcases handlePacket_effect bytes s with h | ⟨-, l, x, u, -, h, rfl | rfl⟩ <;> rw [h] <;> rfl

/-! ## Agents other than INIT -/

theorem KeepsKind.not_init {p : Frame → Bool} (hp : KeepsKind p) {st : Stack} (h : st.all p = true) :
    ∀ l a r, st ≠ .init l a :: r := by
  rintro l a r rfl
  simp [hp.init] at h

/-! ## The radio and the mode record (O56) -/

/-- `radioTracks` and `mappingFits` of a constructed block. -/
def modeTracked (s : State) : Prop :=
  (s.radio.hwMode = hwOf s.mode ∨ (s.radio.hwMode = .standby ∧ (s.mode = .tx ∨ s.mode = .cad))) ∧
  (s.mode = .tx → s.radio.irqMap = some .txDone) ∧
  (s.mode = .rxContinuous → s.radio.irqMap = some .rxDone) ∧
  (s.mode = .cad → s.radio.irqMap = some .cadDone)

theorem modeTracked_of_constructed {s : State} (hc : constructed s) :
    radioTracks s ∧ mappingFits s ↔ modeTracked s := by
  simp [radioTracks, mappingFits, modeTracked, hc]

theorem asleep_of_not_constructed {s : State} (hc : ¬ constructed s) :
    radioTracks s ∧ mappingFits s ↔ s.radio.hwMode = .sleep := by
  simp [radioTracks, mappingFits, hc]

theorem modeTracked_of_eq {s t : State} (mode : t.mode = s.mode) (hw : t.radio.hwMode = s.radio.hwMode)
    (map : t.radio.irqMap = s.radio.irqMap) (h : modeTracked s) : modeTracked t := by
  unfold modeTracked at *
  rwa [mode, hw, map]

@[simp] theorem radioWriteMode_radio (m : HwMode) (s : State) :
    (radioWriteMode m s).radio = { s.radio with hwMode := m } := by
  simp only [radioWriteMode]; split <;> rfl

@[simp] theorem radioMapIrq_radio (src : IrqSource) (s : State) :
    (radioMapIrq src s).radio = { s.radio with irqMap := some src } := by
  simp only [radioMapIrq]; split <;> simp

/-- Every request leaves the radio in its mode, and the line mapped to its source (R136, R231). -/
theorem setIdle_modeTracked {s : State} (h : modeTracked s) : modeTracked (setIdle s) := by
  unfold setIdle; split
  · exact h
  · simp [modeTracked, hwOf]

theorem setTx_modeTracked {s : State} (h : modeTracked s) : modeTracked (setTx s) := by
  unfold setTx; split
  · exact h
  · simp [modeTracked, hwOf]

theorem setRx_modeTracked {s : State} (h : modeTracked s) : modeTracked (setRx s) := by
  unfold setRx; split
  · exact h
  · simp [modeTracked, hwOf]

theorem sleepMode_modeTracked {s : State} (h : modeTracked s) : modeTracked (sleepMode s) := by
  unfold sleepMode; split
  · exact h
  · simp [modeTracked, hwOf]

theorem enterCad_modeTracked (s : State) : modeTracked (enterCad s) := by
  simp [enterCad, modeTracked, hwOf]

/-- Every effect but INIT's writing of the fields keeps the radio in the recorded mode. -/
theorem LeafEffect_modeTracked {st : Stack} {s t : State} (e : LeafEffect st s t)
    (ninit : ∀ l a r, st ≠ .init l a :: r) (h : modeTracked s) : modeTracked t := by
  cases e with
  | fields a i r hst => exact absurd hst (ninit i a r)
  | idle => exact setIdle_modeTracked h
  | tx => exact setTx_modeTracked h
  | rx => exact setRx_modeTracked h
  | sleep => exact sleepMode_modeTracked h
  | cad => exact enterCad_modeTracked s
  | packet => exact modeTracked_of_eq (by simp) (by simp [readPacket_snd]) (by simp [readPacket_snd]) h
  | deliver x => exact modeTracked_of_eq (by simp) (by simp) (by simp) h
  | _ => exact h

theorem raiseFlag_modeTracked {src : IrqSource} {s : State} (h : modeTracked s) : modeTracked (raiseFlag src s) := by
  unfold raiseFlag
  dsimp only
  split
  · exact modeTracked_of_eq (by simp) (by simp) (by simp) h
  · exact h

/-- The radio leaves by itself only the two modes that end, TX and CAD (R64). -/
theorem radioRests_modeTracked {stays : Bool} {s : State} (hw : s.radio.hwMode = .tx ∨ s.radio.hwMode = .cad)
    (h : modeTracked s) : modeTracked (radioRests stays s) := by
  have ends : s.mode = .tx ∨ s.mode = .cad := by
    obtain ⟨hm | ⟨hm, -⟩, -⟩ := h
    · cases hs : s.mode <;> simp_all [hwOf]
    · simp [hm] at hw
  cases stays with
  | true => exact h
  | false => exact ⟨.inr ⟨rfl, ends⟩, h.2⟩

theorem radioStep_modeTracked {e : RadioEvent} {s : State} (h : modeTracked s) : modeTracked (radioStep e s) := by
  unfold radioStep
  split <;> split <;> rename_i hw
  case h_1.isTrue => exact raiseFlag_modeTracked (radioRests_modeTracked (.inl hw) h)
  case h_2.isTrue => exact raiseFlag_modeTracked h
  case h_3.isTrue => exact raiseFlag_modeTracked (radioRests_modeTracked (.inr hw) h)
  all_goals exact h

/-- An event of a sleeping radio is not enabled. -/
theorem radioStep_of_sleep {e : RadioEvent} {s : State} (h : s.radio.hwMode = .sleep) : radioStep e s = s := by
  cases e <;> simp [radioStep, h]

/-- What leaves the life, the mode and the radio alone keeps both invariants. -/
theorem radioTracked_of_eq {s t : State} (life : t.life = s.life) (mode : t.mode = s.mode) (radio : t.radio = s.radio)
    (h : radioTracks s ∧ mappingFits s) : radioTracks t ∧ mappingFits t := by
  unfold radioTracks mappingFits constructed at *
  rwa [life, mode, radio]

/-- An agent's step, or an operation of one step, on a constructed block that stays one. -/
theorem radioTracked_of_effect {st : Stack} {s t u : State} (effect : LeafEffect st s u)
    (ninit : ∀ l a r, st ≠ .init l a :: r) (mode : t.mode = u.mode) (radio : t.radio = u.radio) (hs : constructed s)
    (ht : constructed t) (h : radioTracks s ∧ mappingFits s) : radioTracks t ∧ mappingFits t := by
  have hu := LeafEffect_modeTracked effect ninit ((modeTracked_of_constructed hs).mp h)
  exact (modeTracked_of_constructed ht).mpr (modeTracked_of_eq mode (by rw [radio]) (by rw [radio]) hu)

/-- A step of APP: a command keeps the radio in the recorded mode, and INIT starts with both asleep (R263). -/
theorem settleApp_radioTracked {s : State} {st : Stack} (runs : AppRuns s st) (h : radioTracks s ∧ mappingFits s) :
    radioTracks (settleApp (stepStack st s)) ∧ mappingFits (settleApp (stepStack st s)) := by
  have effect := stepStack_effect st s
  have mode := (settleApp_registers (stepStack st s)).mode
  have radio := settleApp_radio (stepStack st s)
  cases runs with
  | command _ live kind =>
    have ht : constructed (settleApp (stepStack st s)) :=
      .inl (by rw [settleApp_life, stepStack_life isAppFrame_kind st s kind, live])
    exact radioTracked_of_effect effect (isAppFrame_kind.not_init kind) mode radio (.inl live) ht h
  | closing l live =>
    have ht : constructed (settleApp (stepStack [.close l] s)) := by
      cases l with
      | x1 => exact .inl (by simp [live])
      | x2 => exact .inr rfl
    exact radioTracked_of_effect effect (fun _ _ _ => nofun) mode radio (.inl live) ht h
  | initY1 a absent =>
    have asleep := (asleep_of_not_constructed (by simp [constructed, absent])).mp h
    rw [stepStack_initY1]
    split <;> exact (asleep_of_not_constructed (by simp [constructed])).mpr asleep
  | initY2 a constructing =>
    have asleep := (asleep_of_not_constructed (by simp [constructed, constructing])).mp h
    exact (asleep_of_not_constructed (by simp [constructed, initFields, constructing])).mpr asleep
  | initY3 a constructing _ recorded =>
    have asleep := (asleep_of_not_constructed (by simp [constructed, constructing])).mp h
    refine (modeTracked_of_constructed (.inl rfl)).mpr ?_
    simp [modeTracked, recorded, asleep, hwOf]

theorem radioStep_radioTracked {e : RadioEvent} {s : State} (h : radioTracks s ∧ mappingFits s) :
    radioTracks (radioStep e s) ∧ mappingFits (radioStep e s) := by
  by_cases hc : constructed s
  · have ht : constructed (radioStep e s) := by
      unfold constructed
      rwa [(radioStep_registers e s).life]
    exact (modeTracked_of_constructed ht).mpr (radioStep_modeTracked ((modeTracked_of_constructed hc).mp h))
  · rwa [radioStep_of_sleep ((asleep_of_not_constructed hc).mp h)]

/-- Settles O56, over everything a step can be where the control state fits. -/
theorem stepKeepsRadioTracked : Obligations.StepKeepsRadioTracked := by
  intro s t fits tracks mapping hs
  have h := And.intro tracks mapping
  cases step_fitStep fits hs with
  | quiet => exact h
  | app _ _ st _ _ runs => exact settleApp_radioTracked runs h
  | begins _ _ _ _ _ _ _ _ runs => exact settleApp_radioTracked runs h
  | isr k o rest st _ _ live kind =>
    have ht := (stepStack_life isIsrFrame_kind st ((s.setScript rest).setOracle o) kind).trans live
    exact radioTracked_of_effect (stepStack_effect st _) (isIsrFrame_kind.not_init kind)
      (settleIsr_registers k _).mode (settleIsr_radio k _) (.inl live) (.inl ((settleIsr_life k _).trans ht)) h
  | whole _ o _ rest v u _ live effect =>
    have ht := (LeafEffect_life effect (fun _ _ _ => nofun) (fun _ _ => nofun)).trans live
    exact radioTracked_of_effect effect (fun _ _ _ => nofun) rfl rfl (.inl live) (.inl ht) h
  | seqNext => exact h
  | callback => exact h
  | edge o rest => exact radioTracked_of_eq (s := s) (by simp) (by simp) (by simp) h
  | packet o rest bytes => exact radioTracked_of_eq (s := s) (by simp) (by simp) (by simp) h
  | radio e rest => exact radioStep_radioTracked (s := s.setScript rest) h
  | boot => exact (asleep_of_not_constructed (by rintro (h | h) <;> cases h)).mpr rfl

end Sys2Proof.Machine
end

section
/-! PROOFS. What no step changes on a live block, and the writers of what changes (O59, O60). -/

namespace Sys2Proof.Machine

/-! ## The writers of each register -/

/-- Only INIT writes the address, the configuration and, with ONRECEIVE, the callback. -/
theorem LeafEffect_config {st : Stack} {s t : State} (e : LeafEffect st s t) (ninit : ∀ l a r, st ≠ .init l a :: r) :
    t.thisAddress = s.thisAddress ∧ t.cfg = s.cfg ∧ t.par = s.par ∧ t.receiveCallback = s.receiveCallback := by
  cases e with
  | fields a i r h => exact absurd h (ninit i a r)
  | _ => simp

theorem LeafEffect_hwInitOk {st : Stack} {s t : State} (e : LeafEffect st s t) : t.hwInitOk = s.hwInitOk := by
  cases e <;> simp [initFields]

/-- Step W1 alone counts the id (R162). -/
theorem LeafEffect_lastHeaderId {st : Stack} {s t : State} (e : LeafEffect st s t)
    (ninit : ∀ l a r, st ≠ .init l a :: r) :
    t.lastHeaderId = s.lastHeaderId ∨
      t.lastHeaderId = s.lastHeaderId + 1 ∧ ∃ a k q r, st = .sendToWait .w1 a k q :: r := by
  cases e with
  | fields a i r h => exact absurd h (ninit i a r)
  | seq a k q r h => exact .inr ⟨rfl, a, k, q, r, h⟩
  | _ => simp

/-- Step H2h alone writes the record (R221). -/
theorem LeafEffect_lastReceivedPayload {st : Stack} {s t : State} (e : LeafEffect st s t)
    (ninit : ∀ l a r, st ≠ .init l a :: r) :
    t.lastReceivedPayload = s.lastReceivedPayload ∨
      ∃ x r, st = .irq .h2h x :: r ∧ t.lastReceivedPayload = some (packetOf x) := by
  cases e with
  | fields a i r h => exact absurd h (ninit i a r)
  | record x r h => exact .inr ⟨x, r, h, rfl⟩
  | _ => simp

/-- Step H4a alone writes the verdict (R224). -/
theorem LeafEffect_cadDetected {st : Stack} {s t : State} (e : LeafEffect st s t)
    (ninit : ∀ l a r, st ≠ .init l a :: r) :
    t.cadDetected = s.cadDetected ∨ ∃ x r, st = .irq .h4a x :: r ∧ t.cadDetected = cadVerdict x.f := by
  cases e with
  | fields a i r h => exact absurd h (ninit i a r)
  | verdict x r h => exact .inr ⟨x, r, h, rfl⟩
  | _ => simp

/-! ## What APP runs on a live block -/

theorem AppRuns.not_init {s : State} {st : Stack} (runs : AppRuns s st) (live : s.life = .live) :
    ∀ l a r, st ≠ .init l a :: r := by
  cases runs with
  | command _ _ kind => exact isAppFrame_kind.not_init kind
  | closing => exact fun _ _ _ => nofun
  | initY1 _ h => simp [h] at live
  | initY2 _ h => simp [h] at live
  | initY3 _ h => simp [h] at live

/-- The handler's steps are no steps of APP. -/
theorem AppRuns.not_irq {s : State} {st : Stack} (runs : AppRuns s st) : ∀ l x r, st ≠ .irq l x :: r := by
  rintro l x r rfl
  cases runs with
  | command _ _ kind => simp [isAppFrame] at kind

theorem firstFrame_ne_sendToWaitW1 {i : Instr} {s : State} {f : Frame} (first : firstFrame i s = some f) :
    ∀ a k q, f ≠ .sendToWait .w1 a k q := by
  cases i <;> cases first <;> exact fun _ _ _ => nofun

/-- A handler's step is none of SENDTOWAIT's. -/
theorem not_sendToWait_of_isr {st : Stack} (kind : st.all isIsrFrame = true) :
    ∀ l a k q r, st ≠ .sendToWait l a k q :: r := by
  rintro l a k q r rfl
  simp [isIsrFrame] at kind

/-! ## Address, configuration, callback and id (O59) -/

/-- What an effect leaves of them, up to the state `t` that its agent settles in. -/
theorem config_of_effect {st : Stack} {s t u : State} (e : LeafEffect st s u) (ninit : ∀ l a r, st ≠ .init l a :: r)
    (h : SameRegisters u t) :
    t.thisAddress = s.thisAddress ∧ t.cfg = s.cfg ∧ t.par = s.par ∧ t.receiveCallback = s.receiveCallback ∧
      (t.lastHeaderId = s.lastHeaderId ∨
        t.lastHeaderId = s.lastHeaderId + 1 ∧ ∃ a k q r, st = .sendToWait .w1 a k q :: r) := by
  obtain ⟨addr, cfg, par, callback⟩ := LeafEffect_config e ninit
  refine ⟨h.thisAddress.trans addr, h.cfg.trans cfg, h.par.trans par, h.receiveCallback.trans callback, ?_⟩
  rw [h.lastHeaderId]
  exact LeafEffect_lastHeaderId e ninit

/-- Settles O59: an agent's step has one of the effects of `LeafEffect`, and of these only W1 writes the id. -/
theorem addressAndConfigurationAreFixed : Obligations.AddressAndConfigurationAreFixed := by
  intro s t fits live hs notBoot
  cases step_fitStep fits hs with
  | quiet => exact ⟨rfl, rfl, rfl, .inl rfl, .inl rfl⟩
  | app o rest st script busy runs =>
    obtain ⟨addr, cfg, par, callback, id⟩ :=
      config_of_effect (stepStack_effect st _) (runs.not_init live) (settleApp_registers _)
    refine ⟨addr, cfg, par, .inl callback, id.imp_right ?_⟩
    rintro ⟨next, a, k, q, r, rfl⟩
    exact ⟨next, .inl ⟨o, rest, a, k, q, r, script, busy⟩⟩
  | begins ch o bytes rest i f _ first runs =>
    obtain ⟨addr, cfg, par, callback, id⟩ :=
      config_of_effect (stepStack_effect [f] _) (runs.not_init live) (settleApp_registers _)
    refine ⟨addr, cfg, par, .inl callback, id.imp_right ?_⟩
    rintro ⟨-, a, k, q, r, hst⟩
    exact absurd (List.cons.inj hst).1 (firstFrame_ne_sendToWaitW1 first a k q)
  | isr k o rest st _ _ _ kind =>
    obtain ⟨addr, cfg, par, callback, id⟩ :=
      config_of_effect (stepStack_effect st _) (isIsrFrame_kind.not_init kind) (settleIsr_registers k _)
    refine ⟨addr, cfg, par, .inl callback, id.imp_right ?_⟩
    rintro ⟨-, a, k, q, r, hst⟩
    exact absurd hst (not_sendToWait_of_isr kind _ a k q r)
  | whole ch o bytes rest v u _ _ effect =>
    obtain ⟨addr, cfg, par, callback, id⟩ :=
      config_of_effect (t := answer v u) effect (fun _ _ _ => nofun) (by constructor <;> rfl)
    refine ⟨addr, cfg, par, .inl callback, id.imp_right ?_⟩
    rintro ⟨-, a, k, q, r, hst⟩
    cases hst
  | seqNext ch o bytes rest v script d =>
    exact ⟨rfl, rfl, rfl, .inl rfl, .inr ⟨rfl, .inr ⟨ch, o, bytes, rest, script, d⟩⟩⟩
  | callback ch o bytes rest v c script d =>
    exact ⟨rfl, rfl, rfl, .inr ⟨ch, o, bytes, rest, c, script, d, rfl⟩, .inl rfl⟩
  | edge o rest =>
    have h := takeEdge_registers ((s.setScript rest).setOracle o)
    exact ⟨h.thisAddress, h.cfg, h.par, .inl h.receiveCallback, .inl h.lastHeaderId⟩
  | packet o rest bytes =>
    have h := handlePacket_registers bytes ((s.setScript rest).setOracle o)
    exact ⟨h.thisAddress, h.cfg, h.par, .inl h.receiveCallback, .inl h.lastHeaderId⟩
  | radio e rest =>
    have h := radioStep_registers e (s.setScript rest)
    exact ⟨h.thisAddress, h.cfg, h.par, .inl h.receiveCallback, .inl h.lastHeaderId⟩
  | boot => exact absurd rfl notBoot

/-! ## Record and verdict (O60) -/

/-- What an effect leaves of them, up to the state `t` that its agent settles in. -/
theorem reception_of_effect {st : Stack} {s t u : State} (e : LeafEffect st s u)
    (ninit : ∀ l a r, st ≠ .init l a :: r) (h : SameRegisters u t) :
    (t.lastReceivedPayload = s.lastReceivedPayload ∨
      ∃ x r, st = .irq .h2h x :: r ∧ t.lastReceivedPayload = some (packetOf x)) ∧
    (t.cadDetected = s.cadDetected ∨ ∃ x r, st = .irq .h4a x :: r ∧ t.cadDetected = cadVerdict x.f) := by
  rw [h.lastReceivedPayload, h.cadDetected]
  exact ⟨LeafEffect_lastReceivedPayload e ninit, LeafEffect_cadDetected e ninit⟩

/-- An agent that is no handler leaves both. -/
theorem reception_of_not_irq {st : Stack} {s t u : State} (e : LeafEffect st s u)
    (ninit : ∀ l a r, st ≠ .init l a :: r) (nirq : ∀ l x r, st ≠ .irq l x :: r) (h : SameRegisters u t) :
    t.lastReceivedPayload = s.lastReceivedPayload ∧ t.cadDetected = s.cadDetected := by
  obtain ⟨record, verdict⟩ := reception_of_effect e ninit h
  exact ⟨record.resolve_right fun ⟨x, r, hst, _⟩ => nirq _ x r hst,
    verdict.resolve_right fun ⟨x, r, hst, _⟩ => nirq _ x r hst⟩

/-- The two writers: H2h of an invocation, and H4a of one. -/
theorem step_writers {s t : State} (fits : controlFits s) (live : s.life = .live) (hs : step s = .next t)
    (notBoot : t.life ≠ .absent) :
    (t.lastReceivedPayload = s.lastReceivedPayload ∨
      ∃ o rest k x st, s.script = .isr k o :: rest ∧ s.isrs[k]? = some (.irq .h2h x :: st) ∧
        t.lastReceivedPayload = some (packetOf x)) ∧
    (t.cadDetected = s.cadDetected ∨
      ∃ o rest k x st, s.script = .isr k o :: rest ∧ s.isrs[k]? = some (.irq .h4a x :: st) ∧
        t.cadDetected = cadVerdict x.f) := by
  cases step_fitStep fits hs with
  | isr k o rest st script here _ kind =>
    obtain ⟨record, verdict⟩ :=
      reception_of_effect (stepStack_effect st _) (isIsrFrame_kind.not_init kind) (settleIsr_registers k _)
    refine ⟨record.imp_right ?_, verdict.imp_right ?_⟩
    · rintro ⟨x, r, rfl, hx⟩; exact ⟨o, rest, k, x, r, script, here, hx⟩
    · rintro ⟨x, r, rfl, hx⟩; exact ⟨o, rest, k, x, r, script, here, hx⟩
  | app _ _ st _ _ runs =>
    obtain ⟨record, verdict⟩ :=
      reception_of_not_irq (stepStack_effect st _) (runs.not_init live) runs.not_irq (settleApp_registers _)
    exact ⟨.inl record, .inl verdict⟩
  | begins _ _ _ _ _ f _ _ runs =>
    obtain ⟨record, verdict⟩ :=
      reception_of_not_irq (stepStack_effect [f] _) (runs.not_init live) runs.not_irq (settleApp_registers _)
    exact ⟨.inl record, .inl verdict⟩
  | whole _ _ _ _ v u _ _ effect =>
    obtain ⟨record, verdict⟩ :=
      reception_of_not_irq (t := answer v u) effect (fun _ _ _ => nofun) (fun _ _ _ => nofun) (by constructor <;> rfl)
    exact ⟨.inl record, .inl verdict⟩
  | quiet => exact ⟨.inl rfl, .inl rfl⟩
  | seqNext => exact ⟨.inl rfl, .inl rfl⟩
  | callback => exact ⟨.inl rfl, .inl rfl⟩
  | edge o rest =>
    have h := takeEdge_registers ((s.setScript rest).setOracle o)
    exact ⟨.inl h.lastReceivedPayload, .inl h.cadDetected⟩
  | packet o rest bytes =>
    have h := handlePacket_registers bytes ((s.setScript rest).setOracle o)
    exact ⟨.inl h.lastReceivedPayload, .inl h.cadDetected⟩
  | radio e rest =>
    have h := radioStep_registers e (s.setScript rest)
    exact ⟨.inl h.lastReceivedPayload, .inl h.cadDetected⟩
  | boot => exact absurd rfl notBoot

theorem SameRegisters.sameSession {s t : State} (h : SameRegisters s t) : sameSession s t :=
  ⟨h.par, h.life, h.hwInitOk, h.thisAddress, h.cfg, h.receiveCallback⟩

/-- A handler's step writes nothing of the session, neither the id nor APP. -/
theorem settleIsr_session {s : State} {k : Nat} {st : Stack} (kind : st.all isIsrFrame = true) :
    sameSession s (settleIsr k (stepStack st s)) ∧
      (settleIsr k (stepStack st s)).lastHeaderId = s.lastHeaderId ∧ (settleIsr k (stepStack st s)).app = s.app := by
  have effect := stepStack_effect st s
  have h := settleIsr_registers k (stepStack st s)
  obtain ⟨addr, cfg, par, callback, id⟩ := config_of_effect effect (isIsrFrame_kind.not_init kind) h
  have hid := id.resolve_right fun ⟨_, a, q, p, r, hst⟩ => not_sendToWait_of_isr kind _ a q p r hst
  have life := h.life.trans (stepStack_life isIsrFrame_kind st s kind)
  have hw := h.hwInitOk.trans (LeafEffect_hwInitOk effect)
  exact ⟨⟨par, life, hw, addr, cfg, callback⟩, hid, (settleIsr_app k _).trans (LeafEffect_app effect)⟩

/-- A handler's move leaves the session, the id and APP, whether or not an invocation is at its place. -/
theorem isrMove_session {s t : State} {k : Nat} {o : Oracle} {rest : List Move} (fits : controlFits s)
    (script : s.script = .isr k o :: rest) (hs : step s = .next t) :
    sameSession s t ∧ t.lastHeaderId = s.lastHeaderId ∧ t.app = s.app := by
  cases step_effect hs with
  | noIsr => exact ⟨⟨rfl, rfl, rfl, rfl, rfl, rfl⟩, rfl, rfl⟩
  | isr k o rest st _ here =>
    have kind := List.all_eq_true.mp (controlFits_isrsFit fits) st (List.mem_of_getElem? here)
    exact settleIsr_session (s := (s.setScript rest).setOracle o) kind
  | stay h => cases h.symm.trans script
  | arrive _ _ _ _ _ _ h => cases h.symm.trans script
  | short _ _ _ _ _ h => cases h.symm.trans script
  | unreceived _ _ _ _ h => cases h.symm.trans script
  | app _ _ h => cases h.symm.trans script
  | radio _ _ h => cases h.symm.trans script
  | elapse _ _ h => cases h.symm.trans script
  | boot _ _ h => cases h.symm.trans script

theorem cadVerdict_ne_unknown (f : FlagSet) : cadVerdict f ≠ .unknown := by
  unfold cadVerdict; split <;> simp

/-- Settles O60: the writers are H2h and H4a, and what they write is a record and a verdict. -/
theorem recordAndVerdictAreTheHandlers : Obligations.RecordAndVerdictAreTheHandlers := by
  intro s t fits live hs notBoot
  obtain ⟨record, verdict⟩ := step_writers fits live hs notBoot
  refine ⟨record, verdict, fun h => ?_, fun h => ?_, fun o rest k script => isrMove_session fits script hs⟩
  · rcases record with same | ⟨_, _, _, x, _, _, _, hx⟩
    · rwa [same]
    · simp [hx]
  · rcases verdict with same | ⟨_, _, _, x, _, _, _, hx⟩
    · rwa [same]
    · exact hx ▸ cadVerdict_ne_unknown x.f

end Sys2Proof.Machine
end

section
/-! PROOFS. Packets and frames stay within 255 bytes and a stored message within 251 (O57). -/

namespace Sys2Proof.Machine

/-! ## Lengths of packets, frames and messages -/

@[simp] theorem fit_length (n : Nat) (bs : Bytes) : (fit n bs).length = n := by
  simp [fit, zeros]

@[simp] theorem fifoBytes_length (s : State) (n : Nat) : (fifoBytes s n).length = n := by
  unfold fifoBytes
  split
  · simp only [List.length_append, fit_length, List.length_take]
    omega
  · simp

/-- H2a reads as many bytes as a u8 counts (D31). -/
theorem readPacket_length (s : State) : (readPacket s).1.length ≤ 255 := by
  have h := (radioReadRxLength s).1.isLt
  simp only [readPacket, radioFifoRead, fifoBytes_length]
  omega

theorem rxAfterWrite_length (s : State) : (rxAfterWrite s).length = s.radio.rxPkt.length := by
  unfold rxAfterWrite
  split <;> simp

@[simp] theorem encrypt_length (c : Handle) (bs : Bytes) : (encrypt c bs).length = bs.length := by
  simp [encrypt]

@[simp] theorem decrypt_length (c : Handle) (bs : Bytes) : (decrypt c bs).length = bs.length := by
  simp [decrypt]

/-- An outgoing body has BodyLen's length (R92, R191). -/
theorem outBody_length (codec : Option Handle) (payload : Bytes) :
    (outBody codec payload).length = bodyLen payload.length codec := by
  cases codec with
  | none => rfl
  | some c =>
    simp only [outBody, encWrap, wrapWith, encrypt_length, wrapBlock, wrapBlockWith, bodyLen, padLen, zeros,
      Config.encBlock, List.cons_append, List.length_cons, List.length_append, List.length_replicate]
    omega

/-- What passes the check of S0 is sent in at most 255 bytes (R151, R154). -/
theorem sendFrame_length {a : SendArgs} {s : State} (h : tooLong a.payload s.cfg.codec = false) :
    (sendFrame a s).length ≤ 255 := by
  have bound : 4 + bodyLen a.payload.length s.cfg.codec ≤ 255 := by
    exact not_lt.mp (of_decide_eq_false h)
  simp only [sendFrame, hdrBuild, List.length_append, outBody_length, List.length_cons, List.length_nil]
  omega

theorem hdrParse_body_length {packet : Bytes} {h : Header} (hp : hdrParse packet = some h) :
    h.body.length + 4 = packet.length := by
  unfold hdrParse at hp
  split at hp
  · cases hp; rfl
  · cases hp

theorem unwrapBlock_length (block : Bytes) : (unwrapBlock block).length ≤ block.length := by
  cases block with
  | nil => simp [unwrapBlock]
  | cons len rest => simp only [unwrapBlock, List.length_take, List.length_cons]; omega

/-- A message is no longer than the body it was received in (R193, R220). -/
theorem inMessage_length (codec : Option Handle) (body : Bytes) : (inMessage codec body).length ≤ body.length := by
  unfold inMessage
  split
  · exact le_rfl
  · split
    · exact (unwrapBlock_length _).trans (decrypt_length _ body).le
    · exact le_rfl

/-! ## The bounds on what an agent runs -/

/-- The bounds on a control state. -/
def stackFits (codec : Option Handle) (st : Stack) : Prop := ∀ f ∈ st, frameFits codec f

/-- The bounds on what a turn goes on with. -/
def turnFits (codec : Option Handle) : Turn → Prop
  | .go st _ => stackFits codec st
  | .done _ _ => True

section
variable {codec : Option Handle} {st : Stack} {s : State}

@[simp] theorem stackFits_nil : stackFits codec [] := by simp [stackFits]

@[simp] theorem stackFits_cons {f : Frame} : stackFits codec (f :: st) ↔ frameFits codec f ∧ stackFits codec st :=
  List.forall_mem_cons

@[simp] theorem turnFits_go : turnFits codec (.go st s) ↔ stackFits codec st := Iff.rfl

@[simp] theorem turnFits_done {v : Value} : turnFits codec (.done v s) := trivial

@[simp] theorem frameFits_init {l a} : frameFits codec (.init l a) := trivial
@[simp] theorem frameFits_close {l} : frameFits codec (.close l) := trivial
@[simp] theorem frameFits_wait {l c b t0 w} : frameFits codec (.wait l c b t0 w) := trivial
@[simp] theorem frameFits_setCad {l w} : frameFits codec (.setCad l w) := trivial
@[simp] theorem frameFits_waitCad {l t0 w} : frameFits codec (.waitCad l t0 w) := trivial
@[simp] theorem frameFits_sendToWait {l a k r} : frameFits codec (.sendToWait l a k r) := trivial
@[simp] theorem frameFits_sendAck {l d i} : frameFits codec (.sendAck l d i) := trivial

theorem frameFits_send {l : SendLabel} {a : SendArgs} {fr : Bytes} :
    frameFits codec (.send l a fr) ↔ fr.length ≤ 255 ∧ (l ≠ .s0 → tooLong a.payload codec = false) := Iff.rfl

theorem frameFits_irq {l : IrqLabel} {x : IrqLocals} :
    frameFits codec (.irq l x) ↔ x.buf.length ≤ 255 ∧ x.hdr.body.length ≤ 251 ∧ x.msg.length ≤ 251 := Iff.rfl

/-- Past its check a SEND keeps its bounds from label to label. -/
theorem frameFits_send_next {l : SendLabel} (l' : SendLabel) {a : SendArgs} {fr : Bytes} (hl : l ≠ .s0)
    (h : frameFits codec (.send l a fr)) : frameFits codec (.send l' a fr) :=
  ⟨h.1, fun _ => h.2 hl⟩

/-- Handing a result to the caller keeps the bounds. -/
theorem resume_fits (v : Value) (h : stackFits codec st) : turnFits codec (resume v st s) := by
  induction st generalizing v with
  | nil => trivial
  | cons f st ih =>
    obtain ⟨hf, ht⟩ := stackFits_cons.mp h
    unfold resume
    split
    case h_1 heq => cases heq
    case h_2 heq => cases heq; exact stackFits_cons.mpr ⟨frameFits_send_next (l := .s1) .s2 nofun hf, ht⟩
    case h_3 heq => cases heq; exact stackFits_cons.mpr ⟨frameFits_send_next (l := .s3) .s4 nofun hf, ht⟩
    case h_6 heq =>
      cases heq
      split
      · exact ih _ ht
      · simpa using ht
    case h_8 heq => cases heq; exact ih _ ht
    case h_9 heq => cases heq; exact stackFits_cons.mpr ⟨hf, ht⟩
    all_goals rename_i heq; cases heq; simpa using h

/-! ## The bounds after each step -/

theorem setCadM1_fits (h : stackFits codec st) : turnFits codec (setCadM1 st s) := by
  unfold setCadM1
  split
  · exact resume_fits _ h
  · simpa using h

theorem waitCadK0_fits (h : stackFits codec st) : turnFits codec (waitCadK0 st s) := by
  unfold waitCadK0
  split
  · exact resume_fits _ h
  · simpa using h

theorem waitStart_fits {c : WaitCond} {bound : Time} (h : stackFits codec st) :
    turnFits codec (waitStart c bound st s) := by
  simpa [waitStart] using h

/-- S0 lets a payload through that fits. -/
theorem sendS0_fits {a : SendArgs} (hc : s.cfg.codec = codec) (h : stackFits codec st) :
    turnFits codec (sendS0 a st s) := by
  unfold sendS0
  split
  · exact resume_fits _ h
  · simp_all [frameFits_send]

theorem stepWait_fits {l c b t0 w} (h : stackFits codec st) : turnFits codec (stepWait l c b t0 w st s) := by
  cases l with
  | p0 => exact waitStart_fits h
  | p1 =>
    simp only [stepWait, waitSample]
    split
    · simpa using h
    · split
      · split <;> exact resume_fits _ h
      · split
        · exact resume_fits _ h
        · simpa using h
  | p2 => simpa [stepWait, waitNap] using h

theorem stepSetCad_fits {l w} (h : stackFits codec st) : turnFits codec (stepSetCad l w st s) := by
  cases l with
  | m1 => exact setCadM1_fits h
  | m2 => simpa [stepSetCad] using h
  | m3 =>
    simp only [stepSetCad]
    split
    · simpa using h
    · exact resume_fits _ h

theorem stepWaitCad_fits {l t0 w} (h : stackFits codec st) : turnFits codec (stepWaitCad l t0 w st s) := by
  cases l with
  | k0 => exact waitCadK0_fits h
  | k1 => exact setCadM1_fits (by simpa using h)
  | k2 =>
    simp only [stepWaitCad, waitCadK2]
    split
    · simpa using h
    · split
      · exact resume_fits _ h
      · split
        · exact resume_fits _ h
        · split <;> simpa using h
  | k3 => simpa [stepWaitCad] using h

theorem stepSend_fits {l a fr} (hc : s.cfg.codec = codec) (hf : frameFits codec (.send l a fr))
    (h : stackFits codec st) : turnFits codec (stepSend l a fr st s) := by
  have next := fun l' hl => frameFits_send_next (codec := codec) (l := l) l' (a := a) (fr := fr) hl hf
  cases l with
  | s0 => exact sendS0_fits hc h
  | s1 => exact waitStart_fits (stackFits_cons.mpr ⟨hf, h⟩)
  | s3 => exact waitCadK0_fits (stackFits_cons.mpr ⟨hf, h⟩)
  | s4 =>
    have fits : tooLong a.payload codec = false := hf.2 nofun
    exact stackFits_cons.mpr ⟨⟨sendFrame_length (hc ▸ fits), fun _ => fits⟩, h⟩
  | s6 => exact resume_fits _ h
  | s2 | s5a | s5b | s5c => exact stackFits_cons.mpr ⟨next _ nofun, h⟩

theorem stepSendToWait_fits {l a k r} (hc : s.cfg.codec = codec) (h : stackFits codec st) :
    turnFits codec (stepSendToWait l a k r st s) := by
  cases l with
  | w0 =>
    simp only [stepSendToWait, sendToWaitW0]
    split
    · exact resume_fits _ h
    · simpa using h
  | w2 => simp only [stepSendToWait]; split <;> simpa using h
  | w2a => exact sendS0_fits hc (by simpa using h)
  | w2c =>
    simp only [stepSendToWait]
    split
    · exact resume_fits _ h
    · simpa using h
  | w2d => exact waitStart_fits (by simpa using h)
  | w3 => exact resume_fits _ h
  | w1 | w2b | w2e => simpa [stepSendToWait] using h

theorem stepSendAck_fits {l d i} (hc : s.cfg.codec = codec) (h : stackFits codec st) :
    turnFits codec (stepSendAck l d i st s) := by
  cases l with
  | a1 => exact sendS0_fits hc (by simpa using h)
  | a2 => exact waitStart_fits (by simpa using h)

theorem irqParse_fits {l : IrqLabel} {x : IrqLocals} (hf : frameFits codec (.irq l x)) (h : stackFits codec st) :
    turnFits codec (irqParse x st s) := by
  have ⟨hbuf, _, hmsg⟩ := hf
  rcases irqParse_cases x st s with hp | ⟨hdr, hh, hp⟩
  · rw [hp]; exact stackFits_cons.mpr ⟨hf, h⟩
  · have := hdrParse_body_length hh
    rw [hp]
    exact stackFits_cons.mpr ⟨⟨hbuf, by dsimp only; omega, hmsg⟩, h⟩

theorem stepIrq_fits {l x} (hc : s.cfg.codec = codec) (hf : frameFits codec (.irq l x)) (h : stackFits codec st) :
    turnFits codec (stepIrq l x st s) := by
  have ⟨hbuf, hbody, hmsg⟩ := hf
  have go : ∀ l' u, turnFits codec (.go (.irq l' x :: st) u) := fun l' u => stackFits_cons.mpr ⟨hf, h⟩
  cases l with
  | h2a => exact stackFits_cons.mpr ⟨⟨readPacket_length s, hbody, hmsg⟩, h⟩
  | h2d => exact irqParse_fits hf h
  | h2e =>
    simp only [stepIrq]
    split
    · exact go _ _
    · exact resume_fits _ h
  | h2f => exact stackFits_cons.mpr ⟨⟨hbuf, hbody, (inMessage_length _ _).trans hbody⟩, h⟩
  | h2g =>
    simp only [stepIrq]
    split
    · exact stepSendAck_fits hc (stackFits_cons.mpr ⟨hf, h⟩)
    · exact go _ _
  | h5 => exact resume_fits _ h
  | h1 | h2 | h2b | h2c | h2gRx | h2h | h2i | h3 | h4a | h4b => exact stackFits_cons.mpr ⟨hf, h⟩

/-- A step keeps the bounds on what its agent runs. -/
theorem stepStack_fits (h : stackFits s.cfg.codec st) : turnFits s.cfg.codec (stepStack st s) := by
  cases st with
  | nil => trivial
  | cons f st =>
    obtain ⟨hf, ht⟩ := stackFits_cons.mp h
    cases f with
    | init l a =>
      cases l with
      | y1 =>
        simp only [stepStack, stepInit, initY1]
        split
        · simpa using ht
        · exact resume_fits _ ht
      | y2 => simpa [stepStack, stepInit] using ht
      | y3 => exact resume_fits _ ht
    | close l =>
      cases l with
      | x1 => simpa [stepStack, stepClose] using ht
      | x2 => exact resume_fits _ ht
    | wait => exact stepWait_fits ht
    | setCad => exact stepSetCad_fits ht
    | waitCad => exact stepWaitCad_fits ht
    | send => exact stepSend_fits rfl hf ht
    | sendToWait => exact stepSendToWait_fits rfl ht
    | sendAck => exact stepSendAck_fits rfl ht
    | irq => exact stepIrq_fits rfl hf ht

end

end Sys2Proof.Machine
end

section
/-! PROOFS. A step keeps every length within its bound (O57). -/

namespace Sys2Proof.Machine

/-! ## The parts of `lengthsFit` -/

/-- The bounds on the radio's buffers and on the record. -/
def storedFits (s : State) : Prop :=
  s.radio.rxPkt.length ≤ 255 ∧ s.radio.txBuf.length ≤ 255 ∧
    ∀ p, s.lastReceivedPayload = some p → p.message.length ≤ 251

/-- The bounds on the live invocations. -/
def invocationsFit (s : State) : Prop := ∀ st ∈ s.isrs, stackFits s.cfg.codec st

theorem lengthsFit_iff {s : State} : lengthsFit s ↔ storedFits s ∧ appLengthsFit s ∧ invocationsFit s := by
  unfold lengthsFit storedFits invocationsFit stackFits
  simp only [and_assoc]

theorem appLengthsFit_busy {s : State} {st : Stack} (busy : s.app = .busy st) :
    appLengthsFit s ↔ stackFits s.cfg.codec st := by
  unfold appLengthsFit stackFits
  rw [busy]

theorem storedFits_of_eq {s t : State} (rx : t.radio.rxPkt.length = s.radio.rxPkt.length)
    (tx : t.radio.txBuf = s.radio.txBuf) (record : t.lastReceivedPayload = s.lastReceivedPayload)
    (h : storedFits s) : storedFits t := by
  unfold storedFits at *
  rwa [rx, tx, record]

theorem appLengthsFit_of_eq {s t : State} (app : t.app = s.app) (cfg : t.cfg = s.cfg) (h : appLengthsFit s) :
    appLengthsFit t := by
  unfold appLengthsFit at *
  rwa [app, cfg]

/-! ## The invocations that an effect leaves -/

theorem newInvocation_fits (codec : Option Handle) : stackFits codec newInvocation := by
  simp [newInvocation, frameFits_irq]

theorem takeEdge_isrs {s : State} : ∀ st ∈ (takeEdge s).isrs, st ∈ s.isrs ∨ st = newInvocation := by
  unfold takeEdge
  split
  · split
    · simp
    · exact fun _ => .inl
  · exact fun _ => .inl

theorem radioMapIrq_isrs {src : IrqSource} {s : State} :
    ∀ st ∈ (radioMapIrq src s).isrs, st ∈ s.isrs ∨ st = newInvocation := by
  unfold radioMapIrq
  dsimp only
  split
  · exact takeEdge_isrs
  · exact fun _ => .inl

/-- An effect leaves the invocations, or starts a new one where mapping the line raises an edge (U17). -/
theorem LeafEffect_isrs {st : Stack} {s t : State} (e : LeafEffect st s t) :
    ∀ st' ∈ t.isrs, st' ∈ s.isrs ∨ st' = newInvocation := by
  have mapped : ∀ src m, ∀ st' ∈ (radioMapIrq src (radioWriteMode m s)).isrs, st' ∈ s.isrs ∨ st' = newInvocation := by
    intro src m st' hst
    simpa using radioMapIrq_isrs st' hst
  cases e with
  | tx =>
    unfold setTx
    split
    · exact fun _ => .inl
    · exact mapped .txDone .tx
  | rx =>
    unfold setRx
    split
    · exact fun _ => .inl
    · exact mapped .rxDone .rxContinuous
  | cad => exact mapped .cadDone .cad
  | _ => intro st' hst; left; simpa [initFields] using hst

theorem invocationsFit_of_isrs {s t : State} (cfg : t.cfg = s.cfg)
    (isrs : ∀ st ∈ t.isrs, st ∈ s.isrs ∨ st = newInvocation) (h : invocationsFit s) : invocationsFit t := by
  intro st hst
  rw [cfg]
  rcases isrs st hst with old | rfl
  · exact h st old
  · exact newInvocation_fits _

/-! ## The bounds after each effect -/

/-- No effect stores more than its agent holds: a frame of SEND in the FIFO, a message of the handler in the record. -/
theorem LeafEffect_storedFits {codec : Option Handle} {st : Stack} {s t : State} (e : LeafEffect st s t)
    (hst : stackFits codec st) (h : storedFits s) : storedFits t := by
  have ⟨rx, tx, record⟩ := h
  cases e with
  | fifo a frame r hs =>
    subst hs
    obtain ⟨⟨hframe, -⟩, -⟩ := stackFits_cons.mp hst
    exact ⟨(rxAfterWrite_length s).trans_le rx, hframe, record⟩
  | record x r hs =>
    subst hs
    obtain ⟨⟨-, -, hmsg⟩, -⟩ := stackFits_cons.mp hst
    exact ⟨rx, tx, by rintro _ ⟨⟩; exact hmsg⟩
  | fields a i r hs => exact ⟨rx, tx, nofun⟩
  | idle =>
    unfold setIdle
    split
    · exact h
    · exact storedFits_of_eq (by simp) (by simp) (by simp) h
  | tx =>
    unfold setTx
    split
    · exact h
    · exact storedFits_of_eq (by simp) (by simp) (by simp) h
  | rx =>
    unfold setRx
    split
    · exact h
    · exact storedFits_of_eq (by simp) (by simp) (by simp) h
  | sleep =>
    unfold sleepMode
    split
    · exact h
    · exact storedFits_of_eq (by simp) (by simp) (by simp) h
  | cad => exact storedFits_of_eq (by simp [enterCad]) (by simp [enterCad]) (by simp) h
  | packet => exact storedFits_of_eq (by simp [readPacket_snd]) (by simp [readPacket_snd]) (by simp) h
  | deliver x => exact storedFits_of_eq (by simp) (by simp) (by simp) h
  | _ => exact h

theorem LeafEffect_lengthsFit {st : Stack} {s t : State} (e : LeafEffect st s t)
    (ninit : ∀ l a r, st ≠ .init l a :: r) (hst : stackFits s.cfg.codec st) (h : lengthsFit s) : lengthsFit t := by
  obtain ⟨stored, app, invocations⟩ := lengthsFit_iff.mp h
  obtain ⟨-, cfg, -, -⟩ := LeafEffect_config e ninit
  exact lengthsFit_iff.mpr ⟨LeafEffect_storedFits e hst stored, appLengthsFit_of_eq (LeafEffect_app e) cfg app,
    invocationsFit_of_isrs cfg (LeafEffect_isrs e) invocations⟩

/-! ## The bounds after each kind of step -/

/-- APP after a turn within the bounds. -/
theorem settleApp_lengthsFit_of_turn {T : Turn} (stored : storedFits (turnState T))
    (turn : turnFits (turnState T).cfg.codec T) (invocations : invocationsFit (turnState T)) :
    lengthsFit (settleApp T) := by
  cases T with
  | go st u => exact lengthsFit_iff.mpr ⟨stored, turn, invocations⟩
  | done v u => exact lengthsFit_iff.mpr ⟨stored, trivial, invocations⟩

/-- INIT runs before any invocation, and its operands are not bounded. -/
theorem settleApp_init_lengthsFit {s : State} {l : InitLabel} {a : InitArgs} (noIsrs : s.isrs = [])
    (h : lengthsFit s) : lengthsFit (settleApp (stepStack [.init l a] s)) := by
  obtain ⟨stored, -⟩ := lengthsFit_iff.mp h
  have effect := stepStack_effect [.init l a] s
  refine settleApp_lengthsFit_of_turn (LeafEffect_storedFits (codec := s.cfg.codec) effect (by simp) stored) ?_ ?_
  · cases l with
    | y1 => rw [stepStack_initY1]; split <;> simp
    | y2 => simp
    | y3 => simp
  · have still : (turnState (stepStack [.init l a] s)).isrs = [] := by
      cases l with
      | y1 => rw [stepStack_initY1]; split <;> exact noIsrs
      | y2 => exact noIsrs
      | y3 => exact noIsrs
    intro st hst
    simp [still] at hst

theorem settleApp_lengthsFit {s : State} {st : Stack} (runs : AppRuns s st) (hst : stackFits s.cfg.codec st)
    (h : lengthsFit s) : lengthsFit (settleApp (stepStack st s)) := by
  have onLive : s.life = .live → lengthsFit (settleApp (stepStack st s)) := by
    intro live
    have effect := stepStack_effect st s
    obtain ⟨-, cfg, -, -⟩ := LeafEffect_config effect (runs.not_init live)
    obtain ⟨stored, -, invocations⟩ := lengthsFit_iff.mp (LeafEffect_lengthsFit effect (runs.not_init live) hst h)
    exact settleApp_lengthsFit_of_turn stored (cfg ▸ stepStack_fits hst) invocations
  cases runs with
  | command _ live => exact onLive live
  | closing _ live => exact onLive live
  | initY1 _ _ noIsrs => exact settleApp_init_lengthsFit noIsrs h
  | initY2 _ _ noIsrs => exact settleApp_init_lengthsFit noIsrs h
  | initY3 _ _ noIsrs => exact settleApp_init_lengthsFit noIsrs h

theorem settleIsr_invocationsFit {k : Nat} {T : Turn} (turn : turnFits (turnState T).cfg.codec T)
    (h : invocationsFit (turnState T)) : invocationsFit (settleIsr k T) := by
  cases T with
  | go st u =>
    intro st' hst
    rcases List.mem_or_eq_of_mem_set hst with old | rfl
    · exact h st' old
    · exact turn
  | done v u =>
    refine invocationsFit_of_isrs (s := u) (settleIsr_registers k _).cfg ?_ h
    intro st hst
    simp only [settleIsr, returnFromIrq] at hst
    split at hst
    · simp only [State.setIsrs_isrs, List.mem_append, List.mem_singleton] at hst
      exact hst.imp_left List.mem_of_mem_eraseIdx
    · exact .inl (List.mem_of_mem_eraseIdx hst)

theorem settleIsr_lengthsFit {s : State} {k : Nat} {st : Stack} (here : s.isrs[k]? = some st)
    (kind : st.all isIsrFrame = true) (h : lengthsFit s) : lengthsFit (settleIsr k (stepStack st s)) := by
  have effect := stepStack_effect st s
  have ninit := isIsrFrame_kind.not_init kind
  have hst : stackFits s.cfg.codec st := (lengthsFit_iff.mp h).2.2 st (List.mem_of_getElem? here)
  obtain ⟨-, cfg, -, -⟩ := LeafEffect_config effect ninit
  obtain ⟨stored, app, invocations⟩ := lengthsFit_iff.mp (LeafEffect_lengthsFit effect ninit hst h)
  have regs := settleIsr_registers k (stepStack st s)
  exact lengthsFit_iff.mpr
    ⟨storedFits_of_eq (by simp) (by simp) regs.lastReceivedPayload stored,
      appLengthsFit_of_eq (settleIsr_app k _) regs.cfg app,
      settleIsr_invocationsFit (cfg ▸ stepStack_fits hst) invocations⟩

theorem takeEdge_lengthsFit {s : State} (h : lengthsFit s) : lengthsFit (takeEdge s) := by
  obtain ⟨stored, app, invocations⟩ := lengthsFit_iff.mp h
  exact lengthsFit_iff.mpr
    ⟨storedFits_of_eq (by simp) (by simp) (by simp) stored, appLengthsFit_of_eq (by simp) (by simp) app,
      invocationsFit_of_isrs (by simp) takeEdge_isrs invocations⟩

theorem raiseFlag_lengthsFit {src : IrqSource} {s : State} (h : lengthsFit s) : lengthsFit (raiseFlag src s) := by
  unfold raiseFlag
  dsimp only
  split
  · exact takeEdge_lengthsFit h
  · exact h

/-- RADIO receives at most 255 bytes (R64, R80). -/
theorem radioStep_lengthsFit {e : RadioEvent} {s : State} (h : lengthsFit s) : lengthsFit (radioStep e s) := by
  have rests : ∀ stays u, lengthsFit u → lengthsFit (radioRests stays u) := by
    intro stays u hu
    cases stays <;> exact hu
  unfold radioStep
  split <;> split <;> rename_i enabled
  case h_1.isTrue => exact raiseFlag_lengthsFit (rests _ _ h)
  case h_2.isTrue => exact raiseFlag_lengthsFit ⟨enabled.2, h.2⟩
  case h_3.isTrue => exact raiseFlag_lengthsFit (rests _ _ h)
  all_goals exact h

theorem packetLocals_fits {codec : Option Handle} {l : IrqLabel} {bytes : Bytes} {s : State}
    (short : bytes.length ≤ 255) : frameFits codec (.irq l (packetLocals bytes s)) :=
  ⟨short, by simp [packetLocals], by simp [packetLocals]⟩

theorem handlePacket_lengthsFit {bytes : Bytes} {s : State} (short : bytes.length ≤ 255) (h : lengthsFit s) :
    lengthsFit (handlePacket bytes s) := by
  rcases handlePacket_effect bytes s with hp | ⟨-, l, x, u, hgo, hp, -⟩
  · rwa [hp]
  have regs := handlePacket_registers bytes s
  obtain ⟨stored, app, invocations⟩ := lengthsFit_iff.mp h
  refine lengthsFit_iff.mpr
    ⟨storedFits_of_eq (by simp) (by simp) regs.lastReceivedPayload stored,
      appLengthsFit_of_eq (by simp) regs.cfg app, ?_⟩
  have new : stackFits s.cfg.codec [.irq l x] := by
    have := irqParse_fits (s := s) (packetLocals_fits (codec := s.cfg.codec) (l := .h2d) (s := s) short) stackFits_nil
    rwa [hgo] at this
  intro st hst
  rw [regs.cfg]
  simp only [hp, State.setIsrs_isrs, List.mem_append, List.mem_singleton] at hst
  rcases hst with old | rfl
  · exact invocations st old
  · exact new

theorem firstFrame_fits {codec : Option Handle} {i : Instr} {s : State} {f : Frame}
    (first : firstFrame i s = some f) : frameFits codec f := by
  cases i <;> cases first <;> simp [frameFits_send]

/-- Settles O57, over everything a step can be where the control state fits. -/
theorem stepKeepsLengths : Obligations.StepKeepsLengths := by
  intro s t fits h hs
  cases step_fitStep fits hs with
  | quiet => exact h
  | app o rest st _ busy runs =>
    have hst := (appLengthsFit_busy busy).mp (lengthsFit_iff.mp h).2.1
    exact settleApp_lengthsFit (s := (s.setScript rest).setOracle o) runs hst h
  | isr k o rest st _ here _ kind => exact settleIsr_lengthsFit (s := (s.setScript rest).setOracle o) here kind h
  | begins _ o _ rest i f _ first runs =>
    have hst : stackFits s.cfg.codec [f] := stackFits_cons.mpr ⟨firstFrame_fits first, stackFits_nil⟩
    exact settleApp_lengthsFit (s := (s.setScript rest).setOracle o) runs hst h
  | whole _ o _ rest v u _ _ effect =>
    have hu : lengthsFit u := LeafEffect_lengthsFit effect (fun _ _ _ => nofun) stackFits_nil h
    exact hu
  | seqNext => exact h
  | callback => exact h
  | edge => exact takeEdge_lengthsFit h
  | packet _ _ _ short => exact handlePacket_lengthsFit short h
  | radio => exact radioStep_lengthsFit h
  | boot =>
    obtain ⟨stored, -⟩ := lengthsFit_iff.mp h
    exact lengthsFit_iff.mpr ⟨stored, trivial, nofun⟩

end Sys2Proof.Machine
end

section
/-! PROOFS. The band split (O42) and the state after reset (O58). -/

namespace Sys2Proof.Machine

/-- Settles O42: the band is split at 779, and 779 is not below itself. -/
theorem bandSplitsAt779 : Obligations.BandSplitsAt779 := by
  intro par f
  have high : ∀ g : Rat, 779 ≤ g → bandOffset par g = par.rssiOffsetHigh := fun g hg => if_neg (not_lt.mpr hg)
  exact ⟨fun h => if_pos h, high f, high 779 le_rfl⟩

/-- Settles O58: the fields are those of `State.reset`, on a live block with APP idle and no invocation. -/
theorem resetMeetsTheInvariants : Obligations.ResetMeetsTheInvariants := by
  have fits : controlFits State.reset := (controlFits_live rfl).mpr ⟨rfl, .inl rfl⟩
  have tracked : radioTracks State.reset ∧ mappingFits State.reset :=
    (modeTracked_of_constructed (.inl rfl)).mpr ⟨.inl rfl, nofun, nofun, nofun⟩
  have lengths : lengthsFit State.reset :=
    lengthsFit_iff.mpr ⟨⟨Nat.zero_le _, Nat.zero_le _, nofun⟩, trivial, nofun⟩
  refine ⟨rfl, rfl, rfl, rfl, rfl, rfl, rfl, rfl, rfl, rfl, ?_, rfl, rfl, rfl, rfl, fits, tracked.1, tracked.2, lengths⟩
  decide +kernel

end Sys2Proof.Machine
end

section
/-! PROOFS. The radio's registers and constants (O54), RADIO's own steps and the line (O52), the step that writes TX (O53). -/

namespace Sys2Proof.Machine

/-! ## The flags in the register byte (R57) -/

/-- The positions are distinct, so a flag's bit is set at its own position alone. -/
theorem getLsbD_irqBit (j k : Fin 8) : (irqBit j).getLsbD (Config.irqBitPerm k).val = decide (j = k) := by
  rw [irqBit, BitVec.getLsbD_twoPow]
  simp [Fin.val_inj]

theorem getLsbD_irqBit_of_flag (flag : Bool) (j k : Fin 8) :
    (if flag then irqBit j else 0).getLsbD (Config.irqBitPerm k).val = (flag && decide (j = k)) := by
  cases flag
  · exact BitVec.getLsbD_zero
  · exact getLsbD_irqBit j k

theorem flagSetOfByte_flagSetToByte (f : FlagSet) : flagSetOfByte (flagSetToByte f) = f := by
  simp only [flagSetOfByte, flagSetToByte, BitVec.getLsbD_or, getLsbD_irqBit_of_flag]
  simp

/-- Reading the flags looks at the four flag bits only. -/
theorem flagSetOfByte_congr {b b' : Byte}
    (agree : ∀ k : Fin 8, k.val < 4 →
      b.getLsbD (Config.irqBitPerm k).val = b'.getLsbD (Config.irqBitPerm k).val) :
    flagSetOfByte b = flagSetOfByte b' := by
  unfold flagSetOfByte
  rw [agree 0 (by decide), agree 1 (by decide), agree 2 (by decide), agree 3 (by decide)]

/-! ## The codes of registers, modes and sources (R52)

Each code permutes the constructor's index, and the constructor is read back from its index. -/

theorem regAddr_injective : Function.Injective regAddr :=
  Config.regAddrPerm.injective.comp (Function.LeftInverse.injective RadioReg.ofNat_ctorIdx)

theorem hwMode_of_indexByte (m : HwMode) : HwMode.ofNat (BitVec.ofNat 8 m.ctorIdx).toNat = m := by
  cases m <;> rfl

theorem modeVal_injective : Function.Injective modeVal :=
  Config.modeValPerm.injective.comp
    (Function.LeftInverse.injective (g := fun b : Byte => HwMode.ofNat b.toNat) hwMode_of_indexByte)

theorem irqSource_of_indexByte (src : IrqSource) : IrqSource.ofNat (BitVec.ofNat 8 src.ctorIdx).toNat = src := by
  cases src <;> rfl

theorem irqMapVal_injective : Function.Injective irqMapVal :=
  Config.irqMapValPerm.injective.comp
    (Function.LeftInverse.injective (g := fun b : Byte => IrqSource.ofNat b.toNat) irqSource_of_indexByte)

/-- Settles O54: the positions, addresses and values are permutations, whatever they are. -/
theorem radioConstantsAreDistinct : Obligations.RadioConstantsAreDistinct :=
  ⟨flagSetOfByte_flagSetToByte, fun _ _ => flagSetOfByte_congr, fun _ _ same => regAddr_injective same,
    fun _ _ same => modeVal_injective same, fun _ _ same => irqMapVal_injective same⟩

/-! ## RADIO's own steps (R64) and the edge rule (R65) -/

theorem raiseFlag_eq (src : IrqSource) (s : State) :
    raiseFlag src s =
      if s.radio.irqMap = some src ∧ flagOf s.radio.flags src = false then
        takeEdge (s.setRadio { s.radio with flags := addFlag s.radio.flags src })
      else s.setRadio { s.radio with flags := addFlag s.radio.flags src } := by
  simp [raiseFlag]

theorem radioRests_eq (stays : Bool) (s : State) :
    radioRests stays s = s.setRadio { s.radio with hwMode := if stays then s.radio.hwMode else .standby } := by
  cases stays <;> rfl

theorem radioStep_txDone_of_tx {s : State} (stays : Bool) (h : s.radio.hwMode = .tx) :
    radioStep (.txDone stays) s = raiseFlag .txDone (radioRests stays s) := if_pos h

theorem radioStep_txDone_of_ne_tx {s : State} (stays : Bool) (h : s.radio.hwMode ≠ .tx) :
    radioStep (.txDone stays) s = s := if_neg h

theorem radioStep_rxPacket_of_rxContinuous {s : State} {b : Bytes} (q r : Byte)
    (h : s.radio.hwMode = .rxContinuous) (short : b.length ≤ 255) :
    radioStep (.rxPacket b q r) s =
      raiseFlag .rxDone (s.setRadio { s.radio with rxPkt := b, snrRaw := q, rssiRaw := r }) := if_pos ⟨h, short⟩

theorem radioStep_rxPacket_of_not_enabled {s : State} {b : Bytes} (q r : Byte)
    (h : s.radio.hwMode ≠ .rxContinuous ∨ 255 < b.length) : radioStep (.rxPacket b q r) s = s :=
  if_neg fun ⟨mode, short⟩ => h.elim (· mode) short.not_gt

theorem radioStep_cadDone_of_cad {s : State} (det stays : Bool) (h : s.radio.hwMode = .cad) :
    radioStep (.cadDone det stays) s =
      raiseFlag .cadDone (radioRests stays
        (s.setRadio { s.radio with flags := { s.radio.flags with cadDetected := s.radio.flags.cadDetected || det } })) :=
  if_pos h

theorem radioStep_cadDone_of_ne_cad {s : State} (det stays : Bool) (h : s.radio.hwMode ≠ .cad) :
    radioStep (.cadDone det stays) s = s := if_neg h

/-- Settles O52: where a step is enabled it is the flag's raising, from the state the radio rests in. -/
theorem radioStepsAndTheLine : Obligations.RadioStepsAndTheLine := by
  intro s
  refine ⟨?txDone, ?rxPacket, ?cadDone, fun stays => radioStep_txDone_of_ne_tx stays,
    fun _ q r => radioStep_rxPacket_of_not_enabled q r, fun det stays => radioStep_cadDone_of_ne_cad det stays⟩
  case txDone =>
    intro stays h
    rw [radioStep_txDone_of_tx stays h, radioRests_eq, raiseFlag_eq, h]
    rfl
  case rxPacket =>
    intro b q r h short
    rw [radioStep_rxPacket_of_rxContinuous q r h short, raiseFlag_eq]
    rfl
  case cadDone =>
    intro det stays h
    rw [radioStep_cadDone_of_cad det stays h, radioRests_eq, raiseFlag_eq]
    simp only [State.setRadio_radio, h]
    rfl

/-! ## Writing the mode register (R63) -/

theorem radioWriteMode_tx_obs (s : State) :
    (radioWriteMode .tx s).obs = s.obs ++ [.radio (.writeMode .tx), .txStart (txFrame s.radio)] := by
  simp [radioWriteMode]

theorem radioWriteMode_obs_of_ne_tx {m : HwMode} (s : State) (h : m ≠ .tx) :
    (radioWriteMode m s).obs = s.obs ++ [.radio (.writeMode m)] := by
  simp [radioWriteMode, h]

/-- Cutting to the length last written is cutting to the lesser of that length and the buffer's (R63). -/
theorem txFrame_eq_take_min (r : Radio) : txFrame r = r.txBuf.take (min r.txLen.toNat r.txBuf.length) :=
  List.take_eq_take_min

/-- Settles O53: the frame of `TxStart` is the radio's `txFrame`, and no other mode's write emits one. -/
theorem txStartCarriesTheFrame : Obligations.TxStartCarriesTheFrame := by
  intro s
  refine ⟨?_, fun m => radioWriteMode_obs_of_ne_tx s, setTx_of_tx⟩
  rw [radioWriteMode_tx_obs, txFrame_eq_take_min]

end Sys2Proof.Machine
end

section
/-! PROOFS. The encoding of spec/30_encoding.md: what is encoded decodes to itself (O1), what decodes is the encoding of what it decodes to (O2), records by hand (O3), the other code bytes (O4), the length of a frame (O40). -/

namespace Sys2Proof

/-! ## A record decodes to the operation it encodes -/

/-- The operands are read one by one as they were written, whatever bytes follow the record (R95). -/
theorem decodePrefix_encode {i : Instr} (wf : wellFormed i = true) (record : i.format ≠ .frame) (rest : Bytes) :
    decodePrefix (encode i ++ rest) = .ok (i, rest) := by
  cases i with
  | init a =>
    have freq : 0 ≤ a.frequencyMHz.num := of_decide_eq_true wf
    simp [decodePrefix, encode, readOperands, readInit, readNat_encodeNat, readRat_encodeRat _ freq, readInt_encodeInt,
      readBool_encodeBool, readOptHandle_encodeOptHandle]
  | onReceive => simp [decodePrefix, encode, readOperands, readNat_encodeNat]
  | send => simp [decodePrefix, encode, readOperands, readSend, readBytes_encodeBytes]
  | sendToWait => simp [decodePrefix, encode, readOperands, readSendToWait, readBytes_encodeBytes, readNat_encodeNat]
  | hdrBuild => simp [decodePrefix, encode, readOperands, readHdrBuild, readBytes_encodeBytes]
  | hdrParse | encWrap | encUnwrap => simp [decodePrefix, encode, readOperands, readBytes_encodeBytes]
  | frameData | frameAck => exact absurd rfl record
  | _ => rfl

theorem decodeRecord_eq_ok_iff {bs : Bytes} {i : Instr} : decodeRecord bs = .ok i ↔ decodePrefix bs = .ok (i, []) := by
  unfold decodeRecord
  split <;> simp_all

theorem decodeRecord_encode {i : Instr} (wf : wellFormed i = true) (record : i.format ≠ .frame) :
    decodeRecord (encode i) = .ok i := by
  have h := decodePrefix_encode wf record []
  rw [List.append_nil] at h
  exact decodeRecord_eq_ok_iff.mpr h

/-- The flag byte that was received gives back its ACK flag and its reserved bits (R84). -/
theorem decodeFrame_encode {i : Instr} (wf : wellFormed i = true) (frame : i.format = .frame) :
    decodeFrame (encode i) = .ok i := by
  cases i with
  | frameData dst src ident reserved body | frameAck dst src ident reserved body =>
    have short : ¬ 251 < body.length := not_lt.mpr (of_decide_eq_true wf)
    simp only [encode, decodeFrame, short, flagByte_ack, flagByte_reserved, if_false, if_true, Bool.false_eq_true]
  | _ => cases frame

theorem decode_of_ne_air {ch : Channel} (h : ch ≠ .air) (bs : Bytes) : decode ch bs = decodeRecord bs := by
  cases ch with
  | air => exact absurd rfl h
  | _ => rfl

theorem channel_eq_air_iff {f : Format} : f.channel = .air ↔ f = .frame := by
  cases f <;> decide

/-- Settles O1: a frame is read back from its header, a record operand by operand. -/
theorem decodeInvertsEncode : Obligations.DecodeInvertsEncode := by
  intro i wf
  by_cases frame : i.format = .frame
  · rw [frame]
    exact decodeFrame_encode wf frame
  · rw [decode_of_ne_air (mt channel_eq_air_iff.mp frame)]
    exact decodeRecord_encode wf frame

/-! ## Bytes that decode are the encoding of what they decode to -/

/-- The bytes begin with the record of a well-formed operation, and `rest` follows it. -/
structure RecordThen (i : Instr) (rest bytes : Bytes) : Prop where
  wf : wellFormed i = true
  record : i.format ≠ .frame
  bytes_eq : encode i ++ rest = bytes

section
variable {bs rest : Bytes} {i : Instr}

theorem readInit_eq_ok (h : readInit bs = .ok (i, rest)) : RecordThen i rest (0x01 :: bs) := by
  obtain ⟨channelId, _, h₁, h⟩ := readThen_eq_ok h
  obtain ⟨interruptPin, _, h₂, h⟩ := readThen_eq_ok h
  obtain ⟨thisAddress, _, h₃, h⟩ := readThen_eq_ok h
  obtain ⟨frequencyMHz, _, h₄, h⟩ := readThen_eq_ok h
  obtain ⟨txPowerDbm, _, h₅, h⟩ := readThen_eq_ok h
  obtain ⟨modemConfig, _, h₆, h⟩ := readThen_eq_ok h
  obtain ⟨acksEnabled, _, h₇, h⟩ := readThen_eq_ok h
  obtain ⟨cryptoCodec, _, h₈, h⟩ := readThen_eq_ok h
  cases h
  obtain ⟨e₄, freq⟩ := readRat_eq_ok h₄
  refine ⟨decide_eq_true freq, nofun, ?_⟩
  rw [readNat_eq_ok h₁, readNat_eq_ok h₂, readByte_eq_ok h₃, e₄, readInt_eq_ok h₅, readNat_eq_ok h₆, readBool_eq_ok h₇,
    readOptHandle_eq_ok h₈]
  simp [encode]

theorem readSend_eq_ok (h : readSend bs = .ok (i, rest)) : RecordThen i rest (0x03 :: bs) := by
  obtain ⟨payload, _, h₁, h⟩ := readThen_eq_ok h
  obtain ⟨dest, _, h₂, h⟩ := readThen_eq_ok h
  obtain ⟨ident, _, h₃, h⟩ := readThen_eq_ok h
  obtain ⟨flags, _, h₄, h⟩ := readThen_eq_ok h
  cases h
  refine ⟨rfl, nofun, ?_⟩
  rw [readBytes_eq_ok h₁, readByte_eq_ok h₂, readByte_eq_ok h₃, readByte_eq_ok h₄]
  simp [encode]

theorem readSendToWait_eq_ok (h : readSendToWait bs = .ok (i, rest)) : RecordThen i rest (0x04 :: bs) := by
  obtain ⟨payload, _, h₁, h⟩ := readThen_eq_ok h
  obtain ⟨dest, _, h₂, h⟩ := readThen_eq_ok h
  obtain ⟨flags, _, h₃, h⟩ := readThen_eq_ok h
  obtain ⟨retries, _, h₄, h⟩ := readThen_eq_ok h
  cases h
  refine ⟨rfl, nofun, ?_⟩
  rw [readBytes_eq_ok h₁, readByte_eq_ok h₂, readByte_eq_ok h₃, readNat_eq_ok h₄]
  simp [encode]

theorem readHdrBuild_eq_ok (h : readHdrBuild bs = .ok (i, rest)) : RecordThen i rest (0x40 :: bs) := by
  obtain ⟨dst, _, h₁, h⟩ := readThen_eq_ok h
  obtain ⟨src, _, h₂, h⟩ := readThen_eq_ok h
  obtain ⟨ident, _, h₃, h⟩ := readThen_eq_ok h
  obtain ⟨flags, _, h₄, h⟩ := readThen_eq_ok h
  obtain ⟨body, _, h₅, h⟩ := readThen_eq_ok h
  cases h
  refine ⟨rfl, nofun, ?_⟩
  rw [readByte_eq_ok h₁, readByte_eq_ok h₂, readByte_eq_ok h₃, readByte_eq_ok h₄, readBytes_eq_ok h₅]
  simp [encode]

/-- A record of one byte operand. -/
theorem readByteOperand_eq_ok {code : Byte} {op : Byte → Instr}
    (h : readThen (readByte bs) (fun b bs => .ok (op b, bs)) = .ok (i, rest))
    (wf : ∀ b, wellFormed (op b) = true) (record : ∀ b, (op b).format ≠ .frame)
    (layout : ∀ b, encode (op b) = [code, b]) :
    RecordThen i rest (code :: bs) := by
  obtain ⟨b, _, h₁, h⟩ := readThen_eq_ok h
  cases h
  refine ⟨wf b, record b, ?_⟩
  rw [layout, readByte_eq_ok h₁]
  rfl

/-- A record of two byte operands. -/
theorem readTwoBytes_eq_ok {code : Byte} {op : Byte → Byte → Instr}
    (h : readThen (readByte bs) (fun a bs => readThen (readByte bs) fun b bs => .ok (op a b, bs)) = .ok (i, rest))
    (wf : ∀ a b, wellFormed (op a b) = true) (record : ∀ a b, (op a b).format ≠ .frame)
    (layout : ∀ a b, encode (op a b) = [code, a, b]) :
    RecordThen i rest (code :: bs) := by
  obtain ⟨a, _, h₁, h⟩ := readThen_eq_ok h
  obtain ⟨b, _, h₂, h⟩ := readThen_eq_ok h
  cases h
  refine ⟨wf a b, record a b, ?_⟩
  rw [layout, readByte_eq_ok h₁, readByte_eq_ok h₂]
  rfl

/-- A record of one byte-sequence operand. -/
theorem readSequence_eq_ok {code : Byte} {op : Bytes → Instr}
    (h : readThen (readBytes bs) (fun p bs => .ok (op p, bs)) = .ok (i, rest))
    (wf : ∀ p, wellFormed (op p) = true) (record : ∀ p, (op p).format ≠ .frame)
    (layout : ∀ p, encode (op p) = code :: encodeBytes p) :
    RecordThen i rest (code :: bs) := by
  obtain ⟨p, _, h₁, h⟩ := readThen_eq_ok h
  cases h
  refine ⟨wf p, record p, ?_⟩
  rw [layout, readBytes_eq_ok h₁]
  rfl

theorem readHandle_eq_ok (h : readThen (readNat bs) (fun c bs => .ok (.onReceive c, bs)) = .ok (i, rest)) :
    RecordThen i rest (0x02 :: bs) := by
  obtain ⟨c, _, h₁, h⟩ := readThen_eq_ok h
  cases h
  refine ⟨rfl, nofun, ?_⟩
  rw [readNat_eq_ok h₁]
  rfl

end

theorem code_eq_of_toNat {code : Byte} {n : Nat} (h : code.toNat = n) : code = BitVec.ofNat 8 n := by
  subst h
  simp

/-- Whatever the code byte, what its reader accepts is a record of the operation read (R95). -/
theorem readOperands_eq_ok {code : Byte} {bs rest : Bytes} {i : Instr} (h : readOperands code bs = .ok (i, rest)) :
    RecordThen i rest (code :: bs) := by
  unfold readOperands at h
  split at h
  case h_24 => cases h
  all_goals
    rename_i hc
    obtain rfl := code_eq_of_toNat hc
  case h_1 => exact readInit_eq_ok h
  case h_2 => exact readHandle_eq_ok h
  case h_3 => exact readSend_eq_ok h
  case h_4 => exact readSendToWait_eq_ok h
  case h_14 => exact readHdrBuild_eq_ok h
  -- SENDACK and SIG.METRICS
  case h_11 | h_22 => exact readTwoBytes_eq_ok h (fun _ _ => rfl) (fun _ _ => nofun) (fun _ _ => rfl)
  -- ADDR.ACCEPT and FLAG.ISACK
  case h_16 | h_17 => exact readByteOperand_eq_ok h (fun _ => rfl) (fun _ => nofun) (fun _ => rfl)
  -- HDR.PARSE, ENC.WRAP and ENC.UNWRAP
  case h_15 | h_20 | h_21 => exact readSequence_eq_ok h (fun _ => rfl) (fun _ => nofun) (fun _ => rfl)
  -- the operations without an operand
  all_goals
    cases h
    exact ⟨rfl, nofun, rfl⟩

theorem decodeRecord_eq_ok {bs : Bytes} {i : Instr} (h : decodeRecord bs = .ok i) : RecordThen i [] bs := by
  cases bs with
  | nil => cases h
  | cons code bs => exact readOperands_eq_ok (decodeRecord_eq_ok_iff.mp h)

theorem decodeFrame_eq_ok {bs : Bytes} {i : Instr} (h : decodeFrame bs = .ok i) :
    wellFormed i = true ∧ i.format = .frame ∧ encode i = bs := by
  unfold decodeFrame at h
  split at h
  next dst src ident flags body =>
    split at h
    · cases h
    next short =>
      have wf : decide (body.length ≤ 251) = true := decide_eq_true (not_lt.mp short)
      have bits := flagByte_of_bits flags
      split at h <;> rename_i ack
      · cases h
        rw [ack] at bits
        exact ⟨wf, rfl, by rw [encode, bits]⟩
      · cases h
        rw [Bool.eq_false_of_not_eq_true ack] at bits
        exact ⟨wf, rfl, by rw [encode, bits]⟩
  · cases h

/-- Settles O2: every reader accepts its own encoder's bytes alone, and a flag byte is its bits. -/
theorem encodeInvertsDecode : Obligations.EncodeInvertsDecode := by
  refine ⟨fun bs i h => ?_, fun bs i h => decodeFrame_eq_ok h⟩
  obtain ⟨wf, record, bytes_eq⟩ := decodeRecord_eq_ok h
  exact ⟨wf, record, by simpa using bytes_eq⟩

/-! ## Records by hand, and the other code bytes -/

/-- Settles O3, by decoding each. -/
theorem handWrittenWordsDecode : Obligations.HandWrittenWordsDecode := by
  refine ⟨?send, ?setIdle, ?seqNext, ?irq, ?ack, ?data, ?short⟩ <;> rfl

theorem decodeRecord_illegalCode {code : Byte} {operands : Bytes}
    (h : readOperands code operands = .error (.illegalCode code)) :
    decodeRecord (code :: operands) = .error (.illegalCode code) := by
  simp [decodeRecord, decodePrefix, h]

theorem readOperands_illegalCode {code : Byte} (operands : Bytes)
    (other : code.toNat ∉ [0x01, 0x02, 0x03, 0x04, 0x05, 0x10, 0x11, 0x12, 0x13, 0x14, 0x20, 0x21, 0x22, 0x40, 0x41,
      0x42, 0x43, 0x44, 0x45, 0x48, 0x49, 0x4A, 0x80]) :
    readOperands code operands = .error (.illegalCode code) := by
  unfold readOperands
  split
  case h_24 => rfl
  all_goals
    rename_i hc
    exact absurd (hc ▸ other) (by decide)

namespace Machine

/-- The host's port refuses bytes that its decoder rejects, packets apart. -/
theorem step_illegalRecord {s : State} {o : Oracle} {bytes : Bytes} {rest : List Move} {code : Byte}
    (h : s.script = .present .host o bytes :: rest) (hd : decodeRecord bytes = .error (.illegalCode code)) :
    step s = .refused (.illegalRecord (.illegalCode code)) := by
  simp [step, h, fetch, decode, hd]

/-- Settles O4: no reader belongs to such a code byte. -/
theorem otherCodesAreRefused : Obligations.OtherCodesAreRefused := by
  intro code operands other
  have hd := decodeRecord_illegalCode (readOperands_illegalCode operands other)
  exact ⟨hd, fun s o rest hs => step_illegalRecord hs hd⟩

/-! ## The length of a frame -/

/-- Settles O40: four header bytes and a body of BodyLen's length. -/
theorem frameLenIsTheFramesLength : Obligations.FrameLenIsTheFramesLength := by
  intro s a
  simp only [sendFrame, hdrBuild, frameLen, Config.headerLen, List.length_append, outBody_length, List.length_cons,
    List.length_nil]

end Machine

end Sys2Proof
end

section
/-! PROOFS. A received packet from step H2d to the handler's return (spec/60_exceptions.md R218 to R221): the rows FRAME.DATA (O49) and FRAME.ACK (O50), where no acknowledgement is due. -/

namespace Sys2Proof.Machine

/-! ## The flag byte and the header -/

/-- FLAG.ISACK is bit 0 (R84, R113). -/
theorem isAck_eq_getLsbD (flags : Byte) : isAck flags = flags.getLsbD 0 := by
  revert flags; decide

theorem isAck_flagByte (reserved : BitVec 7) (ack : Bool) : isAck (flagByte reserved ack) = ack := by
  rw [isAck_eq_getLsbD, flagByte_ack]

theorem addrAccept_of_eq {s : State} {dst : Byte} (h : dst = s.thisAddress ∨ dst = 255) : addrAccept s dst = true := by
  simpa [addrAccept, Config.addrBroadcast] using h

theorem mustAck_eq_false {x : IrqLocals} {s : State}
    (h : (s.cfg.acksEnabled = false ∨ x.hdr.dst ≠ s.thisAddress) ∨ isAck x.hdr.flags = true) : mustAck x s = false := by
  rcases h with (h | h) | h <;> simp [mustAck, h]

/-! ## What the handler leaves -/

/-- The labels of H2i, of a record and the registered callback (R221). -/
def deliveries (p : ParsedPacket) (callback : Option Handle) : List Label :=
  match callback with
  | none => []
  | some h => if isAck p.headerFlags then [] else [.deliver h p]

theorem deliveries_of_ack {p : ParsedPacket} (ack : isAck p.headerFlags = true) (callback : Option Handle) :
    deliveries p callback = [] := by
  cases callback <;> simp [deliveries, ack]

theorem deliveries_of_data {p : ParsedPacket} (data : isAck p.headerFlags = false) (callback : Option Handle) :
    deliveries p callback = match callback with | some h => [.deliver h p] | none => [] := by
  cases callback <;> simp [deliveries, data]

/-- H2i carries its labels and changes nothing else. -/
theorem deliver_eq (x : IrqLocals) (s : State) :
    deliver x s = { s with obs := s.obs ++ deliveries (packetOf x) s.receiveCallback } := by
  have unchanged (h : deliveries (packetOf x) s.receiveCallback = []) :
      s = { s with obs := s.obs ++ deliveries (packetOf x) s.receiveCallback } := by
    rw [h, List.append_nil]
  unfold deliver
  split
  next absent => exact unchanged (by rw [absent, deliveries])
  next h registered =>
    split
    next ack => exact unchanged (deliveries_of_ack ack _)
    next data =>
      have carried : deliveries (packetOf x) s.receiveCallback = [.deliver h (packetOf x)] := by
        rw [registered, deliveries_of_data (p := packetOf x) (Bool.eq_false_of_not_eq_true data)]
      rw [carried, State.emit]

theorem returnFromIrq_of_quiet {s : State} {k : Nat} (quiet : s.edgeLatched = false) :
    returnFromIrq k s = s.setIsrs (s.isrs.eraseIdx k) := by
  simp [returnFromIrq, quiet]

/-- The locals after H2f (R220). -/
def withMessage (x : IrqLocals) (s : State) : IrqLocals := { x with msg := inMessage s.cfg.codec x.hdr.body }

/-! ## An invocation that runs alone -/

/-- The one live invocation stands at `l` with the locals `x`, and the script gives it its next `n` steps. -/
def handlerAt (n : Nat) (o : Oracle) (l : IrqLabel) (x : IrqLocals) (s : State) : State :=
  (s.setScript (isrMoves n 0 o)).setIsrs [[.irq l x]]

/-- A received packet of at least four bytes puts an invocation at H2e with its header parsed (R218). -/
theorem handlePacket_hdrBuild {s : State} {n : Nat} {o : Oracle} (live : s.life = .live) (noIsrs : s.isrs = [])
    (mode : s.mode = .rxContinuous) (hw : s.radio.hwMode = .rxContinuous) (script : s.script = isrMoves n 0 o)
    (dst src ident flags : Byte) (body : Bytes) :
    handlePacket (hdrBuild dst src ident flags body) s =
      handlerAt n o .h2e
        { packetLocals (hdrBuild dst src ident flags body) s with hdr := ⟨dst, src, ident, flags, body⟩ } s := by
  have received : receives s = true := receives_eq_true.mpr ⟨live, mode, hw, .inr noIsrs⟩
  have scripted : ∀ st : List Stack, s.setIsrs st = (s.setScript (isrMoves n 0 o)).setIsrs st := by
    intro st
    rw [← script]
    rfl
  simp only [handlePacket, received, if_true]
  change s.setIsrs (s.isrs ++ _) = _
  rw [noIsrs, scripted]
  rfl

section
variable {n : Nat} {o : Oracle} {l l' : IrqLabel} {x x' : IrqLocals} {s t : State}

theorem deliver_handlerAt (y : IrqLocals) : deliver y (handlerAt n o l x s) = handlerAt n o l x (deliver y s) := by
  rw [deliver_eq, deliver_eq]
  rfl

theorem runSteps_handlerAt (live : s.life = .live) :
    runSteps (n + 1) (handlerAt (n + 1) o l x s) =
      runSteps n (settleIsr 0 (stepIrq l x [] (handlerAt n o l x (s.setOracle o)))) :=
  have notClosed : (handlerAt (n + 1) o l x s).life ≠ .closed := by simp [handlerAt, live]
  runSteps_isr rfl rfl notClosed

/-- A step of the handler that goes on. -/
theorem runSteps_handlerAt_go (live : s.life = .live)
    (go : stepIrq l x [] (handlerAt n o l x (s.setOracle o)) = .go [.irq l' x'] (handlerAt n o l x t)) :
    runSteps (n + 1) (handlerAt (n + 1) o l x s) = runSteps n (handlerAt n o l' x' t) := by
  rw [runSteps_handlerAt live, go]
  rfl

/-- H5: the flags are cleared and, with no edge latched, the handler returns (R234). -/
theorem runSteps_handlerAt_h5 (live : s.life = .live) (quiet : s.edgeLatched = false) :
    runSteps (n + 1) (handlerAt (n + 1) o .h5 x s) =
      runSteps n (radioClearIrqFlags (((s.setOracle o).setScript (isrMoves n 0 o)).setIsrs [])) := by
  rw [runSteps_handlerAt live]
  simp only [stepIrq, resume_nil, settleIsr]
  rw [returnFromIrq_of_quiet (by simpa [handlerAt] using quiet)]
  rfl

theorem stepIrq_h2e_of_accepted {caller : Stack} (h : addrAccept s x.hdr.dst = true) :
    stepIrq .h2e x caller s = .go (.irq .h2f x :: caller) s := if_pos h

theorem stepIrq_h2g_of_no_ack {caller : Stack} (h : mustAck x s = false) :
    stepIrq .h2g x caller s = .go (.irq .h2h x :: caller) s := if_neg (ne_true_of_eq_false h)

/-- H2e to H5 of a packet for this node or for all, with no acknowledgement due (R219 to R221). -/
theorem runSteps_handlerAt_stored (live : s.life = .live) (quiet : s.edgeLatched = false)
    (accepted : addrAccept s x.hdr.dst = true) (noAck : mustAck x s = false) :
    runSteps 6 (handlerAt 6 o .h2e x s) =
      .next
        { s with
          lastReceivedPayload := some (packetOf (withMessage x s))
          radio := { s.radio with flags := ⟨false, false, false, false⟩ }
          isrs := []
          oracle := o
          script := []
          obs := s.obs ++ deliveries (packetOf (withMessage x s)) s.receiveCallback ++ [.radio .clearIrqFlags] } := by
  let y := withMessage x s
  let u := s.setOracle o
  let v := u.setRecord (packetOf y)
  calc runSteps 6 (handlerAt 6 o .h2e x s)
    _ = runSteps 5 (handlerAt 5 o .h2f x u) := runSteps_handlerAt_go live (stepIrq_h2e_of_accepted accepted)
    _ = runSteps 4 (handlerAt 4 o .h2g y u) := runSteps_handlerAt_go live rfl
    _ = runSteps 3 (handlerAt 3 o .h2h y u) := runSteps_handlerAt_go live (stepIrq_h2g_of_no_ack noAck)
    _ = runSteps 2 (handlerAt 2 o .h2i y v) := runSteps_handlerAt_go live rfl
    _ = runSteps 1 (handlerAt 1 o .h5 y (deliver y v)) :=
      runSteps_handlerAt_go live (congrArg _ (deliver_handlerAt y))
    _ = _ := by
      rw [runSteps_handlerAt_h5 (by simpa [v, u] using live) (by simpa [v, u] using quiet), deliver_eq]
      simp only [v, u, radioClearIrqFlags, State.setRadio, State.emit, State.setIsrs, State.setScript, State.setOracle,
        State.setRecord]
      rfl

end

/-! ## The rows FRAME.DATA and FRAME.ACK -/

section
variable {s : State} {o : Oracle} {dst src ident flags : Byte} {body : Bytes}

/-- The record of a packet received with this header (R88, R220). -/
def packetRecord (s : State) (dst src ident flags : Byte) (body : Bytes) : ParsedPacket where
  message := inMessage s.cfg.codec body
  headerTo := dst
  headerFrom := src
  headerId := ident
  headerFlags := flags
  snr := (sigMetrics s s.radio.snrRaw s.radio.rssiRaw).1
  rssi := (sigMetrics s s.radio.snrRaw s.radio.rssiRaw).2

/-- A packet in reception that needs no acknowledgement is stored, and delivered if it is data (R221). -/
theorem handlePacket_stored (live : s.life = .live) (noIsrs : s.isrs = []) (quiet : s.edgeLatched = false)
    (mode : s.mode = .rxContinuous) (hw : s.radio.hwMode = .rxContinuous) (accepted : dst = s.thisAddress ∨ dst = 255)
    (noAck : (s.cfg.acksEnabled = false ∨ dst ≠ s.thisAddress) ∨ isAck flags = true) (script : s.script = isrMoves 6 0 o) :
    runSteps 6 (handlePacket (hdrBuild dst src ident flags body) s) =
      .next
        { s with
          lastReceivedPayload := some (packetRecord s dst src ident flags body)
          radio := { s.radio with flags := ⟨false, false, false, false⟩ }
          oracle := o
          script := []
          obs := s.obs ++ deliveries (packetRecord s dst src ident flags body) s.receiveCallback ++
            [.radio .clearIrqFlags] } := by
  rw [handlePacket_hdrBuild live noIsrs mode hw script,
    runSteps_handlerAt_stored live quiet (addrAccept_of_eq accepted) (mustAck_eq_false noAck), noIsrs]
  rfl

end

/-- Settles O49: outside reception by H2's fence, in reception by H2d to H5 with the ACK flag clear. -/
theorem dataFrameIsStoredAndDelivered : Obligations.DataFrameIsStoredAndDelivered := by
  intro s o dst src ident reserved body
  refine ⟨fun outside => congrArg _ (handlePacket_outside outside), ?_⟩
  intro live noIsrs quiet mode hw accepted noAck script p
  have data : isAck (packetRecord s dst src ident (flagByte reserved false) body).headerFlags = false :=
    isAck_flagByte reserved false
  refine ⟨_, rfl, ?_⟩
  rw [handlePacket_stored live noIsrs quiet mode hw accepted (.inl noAck) script, deliveries_of_data data]
  cases s.receiveCallback <;> rfl

/-- Settles O50: the same run with the ACK flag set, which excludes the acknowledgement and the delivery. -/
theorem ackFrameIsStoredOnly : Obligations.AckFrameIsStoredOnly := by
  intro s o dst src ident reserved body
  refine ⟨fun outside => congrArg _ (handlePacket_outside outside), ?_⟩
  intro live noIsrs quiet mode hw accepted script
  have ack : isAck (packetRecord s dst src ident (flagByte reserved true) body).headerFlags = true :=
    isAck_flagByte reserved true
  refine ⟨_, rfl, ?_⟩
  rw [handlePacket_stored live noIsrs quiet mode hw accepted (.inr (isAck_flagByte reserved true)) script,
    deliveries_of_ack ack, List.append_nil]
  rfl

end Sys2Proof.Machine
end

section
/-! PROOFS. The framer's functions of spec/40_framing.md: header, address, ACK flag (O30 to O32), the sequence id (O33, O34), the acknowledgement match (O35). -/

namespace Sys2Proof.Machine

/-! ## What a function answers -/

/-- An idle APP of a live instance answers with the value as the command's result (R17, R94). -/
theorem guarded_answer {s : State} (idle : s.app = .idle) (live : s.life = .live) (v : Value) (t : State) :
    guarded (gate s) (answer v t) = .next { t with obs := t.obs ++ [.result v] } := by
  rw [gate_of_ready idle live]
  rfl

/-! ## The values of the functions -/

/-- HDR.PARSE takes apart what HDR.BUILD put together (R110, R111). -/
theorem hdrParse_hdrBuild (dst src ident flags : Byte) (body : Bytes) :
    hdrParse (hdrBuild dst src ident flags body) = some ⟨dst, src, ident, flags, body⟩ := rfl

/-- HDR.PARSE gives none where the four header bytes are not all there (R111). -/
theorem hdrParse_of_short {packet : Bytes} (short : packet.length < 4) : hdrParse packet = none := by
  unfold hdrParse
  split
  next =>
    simp only [List.length_cons] at short
    omega
  next => rfl

/-- ADDR.ACCEPT in the spec's words (R112). -/
theorem addrAccept_eq_decide (s : State) (dst : Byte) :
    addrAccept s dst = decide (dst = s.thisAddress ∨ dst = 255) := by
  by_cases h : dst = s.thisAddress ∨ dst = 255
  · rw [addrAccept_of_eq h, decide_eq_true h]
  · rw [decide_eq_false h]
    simpa [addrAccept, Config.addrBroadcast] using h

/-- H2i leaves an acknowledgement undelivered (R221). -/
theorem deliver_of_ack {x : IrqLocals} (ack : isAck x.hdr.flags = true) (s : State) : deliver x s = s := by
  have none_due : deliveries (packetOf x) s.receiveCallback = [] := deliveries_of_ack ack _
  rw [deliver_eq, none_due, List.append_nil]

theorem ackMatches_of_empty {s : State} (empty : s.lastReceivedPayload = none) : ackMatches s = false := by
  rw [ackMatches, empty]

/-- ACK.MATCH of a stored record (R115). -/
theorem ackMatches_iff {s : State} {p : ParsedPacket} (stored : s.lastReceivedPayload = some p) :
    ackMatches s = true ↔
      p.headerTo = s.thisAddress ∧ p.headerFlags.getLsbD 0 = true ∧ p.headerId = s.lastHeaderId := by
  rw [← isAck_eq_getLsbD]
  simp [ackMatches, stored, and_assoc]

/-! ## The sequence id -/

theorem nextId_toNat (v : Byte) : (nextId v).toNat = (v.toNat + 1) % 256 := BitVec.toNat_add v 1

theorem iterate_nextId_toNat (v : Byte) (n : Nat) : (nextId^[n] v).toNat = (v.toNat + n) % 256 := by
  induction n with
  | zero => exact (Nat.mod_eq_of_lt v.isLt).symm
  | succ n ih => rw [Function.iterate_succ_apply', nextId_toNat, ih, Nat.mod_add_mod, Nat.add_assoc]

/-! ## The obligations -/

/-- Settles O34: `n` increments by induction on `n`, and 256 is 0 modulo 256. -/
theorem sequenceIdWraps : Obligations.SequenceIdWraps := by
  intro v n
  refine ⟨iterate_nextId_toNat v n, BitVec.eq_of_toNat_eq ?_⟩
  rw [iterate_nextId_toNat, Nat.add_mod_right, Nat.mod_eq_of_lt v.isLt]

/-- Settles O30: parsing what was built, and parsing a packet too short for a header. -/
theorem headerBuildAndParse : Obligations.HeaderBuildAndParse := by
  intro s dst src ident flags body packet idle live
  refine ⟨guarded_answer idle live _ s, ?built, fun short => ?short⟩
  case built =>
    rw [← hdrParse_hdrBuild]
    exact guarded_answer idle live _ s
  case short =>
    rw [← hdrParse_of_short short]
    exact guarded_answer idle live _ s

/-- Settles O31: the answer is ADDR.ACCEPT's value. -/
theorem addressAcceptance : Obligations.AddressAcceptance := by
  intro s dst idle live
  rw [← addrAccept_eq_decide]
  exact guarded_answer idle live _ s

/-- Settles O32: bit 0 is the ACK flag, which H2g, H2i and ACK.MATCH test. -/
theorem ackFlagDecides : Obligations.AckFlagDecides := by
  intro s flags idle live
  refine ⟨?answer, ?handler, ?accepted⟩
  case answer =>
    rw [← isAck_eq_getLsbD]
    exact guarded_answer idle live _ s
  case handler =>
    intro x bit
    have ack : isAck x.hdr.flags = true := (isAck_eq_getLsbD _).trans bit
    exact ⟨mustAck_eq_false (.inr ack), deliver_of_ack ack s⟩
  case accepted =>
    intro p stored holds
    obtain ⟨-, bit, -⟩ := (ackMatches_iff stored).mp holds
    exact bit

/-- Settles O33: the answer on the state with the new id. -/
theorem seqNextIncrements : Obligations.SeqNextIncrements := by
  intro s idle live
  exact ⟨guarded_answer idle live _ (s.setSeq (nextId s.lastHeaderId)), nextId_toNat s.lastHeaderId⟩

/-- Settles O35: the answer, and the match on an empty and on a stored record. -/
theorem ackMatchReadsThreeFields : Obligations.AckMatchReadsThreeFields := by
  intro s idle live
  exact ⟨guarded_answer idle live _ s, ackMatches_of_empty, fun _ => ackMatches_iff⟩

end Sys2Proof.Machine
end

section
/-! PROOFS. The five mode requests (spec/41_mode_control.md): SETIDLE (O19), SETTX (O20), SETRX (O21), SLEEP (O22), and SETCAD with its pause (O23). -/

namespace Sys2Proof.Machine

/-! ## The edge that a re-mapping may raise (R65, U17) -/

/-- `u`, and an edge after it where the line of `s` is mapped to a flag set already and the oracle says so. -/
def edgeOnRemap (src : IrqSource) (s u : State) : State :=
  if flagOf s.radio.flags src && s.oracle.remapEdge then takeEdge u else u

section
variable {src : IrqSource} {s u : State}

/-- An update that sees neither the live invocations nor the latch may come before the edge. -/
theorem apply_edgeOnRemap (f : State → State) (life : (f u).life = u.life) (par : (f u).par = u.par)
    (isrs : (f u).isrs = u.isrs) (setIsrs : ∀ l, f (u.setIsrs l) = (f u).setIsrs l)
    (setLatched : f (u.setLatched true) = (f u).setLatched true) :
    f (edgeOnRemap src s u) = edgeOnRemap src s (f u) := by
  have edge : f (takeEdge u) = takeEdge (f u) := by
    simp only [takeEdge, life, par, isrs]
    split
    · rw [apply_ite f, setIsrs, setLatched]
    · rfl
  rw [edgeOnRemap, apply_ite f, edge, edgeOnRemap]

theorem edgeOnRemap_setMode (m : Mode) : (edgeOnRemap src s u).setMode m = edgeOnRemap src s (u.setMode m) :=
  apply_edgeOnRemap (State.setMode · m) rfl rfl rfl (fun _ => rfl) rfl

theorem edgeOnRemap_setApp (a : AppCtl) : (edgeOnRemap src s u).setApp a = edgeOnRemap src s (u.setApp a) :=
  apply_edgeOnRemap (State.setApp · a) rfl rfl rfl (fun _ => rfl) rfl

theorem edgeOnRemap_emit (l : Label) : (edgeOnRemap src s u).emit l = edgeOnRemap src s (u.emit l) :=
  apply_edgeOnRemap (State.emit · l) rfl rfl rfl (fun _ => rfl) rfl

theorem edgeOnRemap_of_quiet (quiet : flagOf s.radio.flags src = false ∨ s.oracle.remapEdge = false) :
    edgeOnRemap src s u = u := by
  rcases quiet with h | h <;> simp [edgeOnRemap, h]

theorem edgeOnRemap_obs : (edgeOnRemap src s u).obs = u.obs := by
  unfold edgeOnRemap; split <;> simp

end

/-! ## What each request does (R130 to R134) -/

/-- The line re-mapped and the mode recorded: how SETTX, SETRX and SETCAD's M3 end. -/
theorem radioMapIrq_setMode (src : IrqSource) (m : Mode) (s : State) :
    (radioMapIrq src s).setMode m =
      edgeOnRemap src s
        { s with
          mode := m
          radio := { s.radio with irqMap := some src }
          obs := s.obs ++ [.radio (.mapIrq src)] } :=
  edgeOnRemap_setMode m

theorem radioWriteMode_tx (s : State) :
    radioWriteMode .tx s =
      { s with
        radio := { s.radio with hwMode := .tx }
        obs := s.obs ++ [.radio (.writeMode .tx), .txStart (txFrame s.radio)] } := by
  simp [radioWriteMode, State.emit, State.setRadio]

theorem radioWriteMode_of_ne_tx {m : HwMode} (h : m ≠ .tx) (s : State) :
    radioWriteMode m s =
      { s with radio := { s.radio with hwMode := m }, obs := s.obs ++ [.radio (.writeMode m)] } := by
  simp [radioWriteMode, h, State.emit, State.setRadio]

theorem setIdle_of_ne_idle {s : State} (h : s.mode ≠ .idle) :
    setIdle s =
      { s with
        mode := .idle
        radio := { s.radio with hwMode := .standby }
        obs := s.obs ++ [.radio (.writeMode .standby)] } := by
  rw [setIdle, if_neg h, radioWriteMode_of_ne_tx (by decide), State.setMode]

theorem sleepMode_of_ne_sleep {s : State} (h : s.mode ≠ .sleep) :
    sleepMode s =
      { s with
        mode := .sleep
        radio := { s.radio with hwMode := .sleep }
        obs := s.obs ++ [.radio (.writeMode .sleep)] } := by
  rw [sleepMode, if_neg h, radioWriteMode_of_ne_tx (by decide), State.setMode]

theorem setTx_of_ne_tx {s : State} (h : s.mode ≠ .tx) :
    setTx s =
      edgeOnRemap .txDone s
        { s with
          mode := .tx
          radio := { s.radio with hwMode := .tx, irqMap := some .txDone }
          obs := s.obs ++ [.radio (.writeMode .tx), .txStart (txFrame s.radio)] ++ [.radio (.mapIrq .txDone)] } := by
  rw [setTx, if_neg h, radioMapIrq_setMode, radioWriteMode_tx]
  rfl

theorem setRx_of_ne_rx {s : State} (h : s.mode ≠ .rxContinuous) :
    setRx s =
      edgeOnRemap .rxDone s
        { s with
          mode := .rxContinuous
          radio := { s.radio with hwMode := .rxContinuous, irqMap := some .rxDone }
          obs := s.obs ++ [.radio (.writeMode .rxContinuous)] ++ [.radio (.mapIrq .rxDone)] } := by
  rw [setRx, if_neg h, radioMapIrq_setMode, radioWriteMode_of_ne_tx (by decide)]
  rfl

theorem enterCad_eq (s : State) :
    enterCad s =
      edgeOnRemap .cadDone s
        { s with
          mode := .cad
          radio := { s.radio with hwMode := .cad, irqMap := some .cadDone }
          obs := s.obs ++ [.radio (.writeMode .cad)] ++ [.radio (.mapIrq .cadDone)] } := by
  rw [enterCad, radioMapIrq_setMode, radioWriteMode_of_ne_tx (by decide)]
  rfl

/-! ## SETIDLE, SETTX, SETRX, SLEEP: one step each -/

theorem guarded_answer_unit {s t u : State} (idle : s.app = .idle) (live : s.life = .live) (h : t.emit (.result .unit) = u) :
    guarded (gate s) (answer .unit t) = .next u :=
  (guarded_answer idle live .unit t).trans (congrArg _ h)

/-- Settles O19: the two branches of SETIDLE. -/
theorem setIdleWritesStandbyOnce : Obligations.SetIdleWritesStandbyOnce := by
  intro s idle live
  refine ⟨fun h => guarded_answer_unit idle live ?_, fun h => guarded_answer_unit idle live ?_⟩
  · rw [setIdle_of_idle h]; rfl
  · rw [setIdle_of_ne_idle h, State.emit, List.append_assoc]; rfl

/-- Settles O20: the two branches of SETTX, the result coming after the edge. -/
theorem setTxStartsTheTransmission : Obligations.SetTxStartsTheTransmission := by
  intro s idle live
  refine ⟨fun h => guarded_answer_unit idle live ?_, fun h => guarded_answer_unit idle live ?_⟩
  · rw [setTx_of_tx h]; rfl
  · rw [setTx_of_ne_tx h, edgeOnRemap_emit, State.emit, List.append_assoc, List.append_assoc]; rfl

/-- Settles O21: the two branches of SETRX, the result coming after the edge. -/
theorem setRxStartsReception : Obligations.SetRxStartsReception := by
  intro s idle live
  refine ⟨fun h => guarded_answer_unit idle live ?_, fun h => guarded_answer_unit idle live ?_⟩
  · rw [setRx_of_rx h]; rfl
  · rw [setRx_of_ne_rx h, edgeOnRemap_emit, State.emit, List.append_assoc, List.append_assoc]; rfl

/-- Settles O22: the two branches of SLEEP. -/
theorem sleepWritesSleepOnce : Obligations.SleepWritesSleepOnce := by
  intro s idle live
  refine ⟨fun h => guarded_answer_unit idle live ?_, fun h => guarded_answer_unit idle live ?_⟩
  · rw [sleepMode_of_sleep h]; rfl
  · rw [sleepMode_of_ne_sleep h, State.emit, List.append_assoc]; rfl

/-! ## SETCAD's steps by APP (R134) -/

section
variable {s : State} {wake : Time}

theorem exec_setCad_of_cad (idle : s.app = .idle) (live : s.life = .live) (h : s.mode = .cad) :
    exec .setCad s = .next { s with obs := s.obs ++ [.result .unit] } := by
  change guarded (gate s) (settleApp (setCadM1 [] s)) = _
  rw [gate_of_ready idle live, guarded_none, setCadM1, if_pos h, resume_nil, settleApp_done, setApp_self idle]
  rfl

/-- M1 outside CAD: SETIDLE, and APP stands before the pause. -/
theorem exec_setCad_of_ne_cad (idle : s.app = .idle) (live : s.life = .live) (h : s.mode ≠ .cad) :
    exec .setCad s = .next ((setIdle s).setApp (.busy [.setCad .m2 s.clock])) := by
  change guarded (gate s) (settleApp (setCadM1 [] s)) = _
  rw [gate_of_ready idle live, guarded_none, setCadM1, if_neg h, settleApp_go]

/-- M2: the time of waking is the settle time from now. -/
theorem appStep_setCad_m2 (busy : s.app = .busy [.setCad .m2 wake]) :
    appStep s = s.setApp (.busy [.setCad .m3 (s.clock + s.par.cadSettleTime)]) :=
  appStep_busy busy

theorem appStep_setCad_asleep (busy : s.app = .busy [.setCad .m3 wake]) (early : s.clock < wake) : appStep s = s := by
  rw [appStep_busy busy, stepStack, stepSetCad, if_pos early, settleApp_go, setApp_self busy]

/-- M3, in whatever mode. -/
theorem appStep_setCad_awake (busy : s.app = .busy [.setCad .m3 wake]) (passed : wake ≤ s.clock) :
    appStep s = ((enterCad s).setApp .idle).emit (.result .unit) := by
  rw [appStep_busy busy, stepStack, stepSetCad, if_neg (not_lt.mpr passed), resume_nil, settleApp_done]

/-- M3's state in full, the result coming after the edge. -/
theorem enterCad_answered (s : State) :
    ((enterCad s).setApp .idle).emit (.result .unit) =
      edgeOnRemap .cadDone s
        { s with
          app := .idle
          mode := .cad
          radio := { s.radio with hwMode := .cad, irqMap := some .cadDone }
          obs := s.obs ++ [.radio (.writeMode .cad), .radio (.mapIrq .cadDone), .result .unit] } := by
  rw [enterCad_eq, edgeOnRemap_setApp, edgeOnRemap_emit, State.emit, State.setApp,
    List.append_assoc, List.append_assoc]
  rfl

end

/-! ## What a change of mode leaves -/

/-- `t` has of `s` the session, the handler's registers and the id, and the radio but for its mode and mapping. -/
structure ModeChange (s t : State) : Prop where
  session : sameSession s t
  cadDetected : t.cadDetected = s.cadDetected
  lastHeaderId : t.lastHeaderId = s.lastHeaderId
  lastReceivedPayload : t.lastReceivedPayload = s.lastReceivedPayload
  radio : ∃ m src, t.radio = { s.radio with hwMode := m, irqMap := src }

theorem ModeChange.trans {s t u : State} (h : ModeChange s t) (h' : ModeChange t u) : ModeChange s u where
  session := by
    obtain ⟨par, life, hw, addr, cfg, callback⟩ := h.session
    obtain ⟨par', life', hw', addr', cfg', callback'⟩ := h'.session
    exact ⟨par'.trans par, life'.trans life, hw'.trans hw, addr'.trans addr, cfg'.trans cfg, callback'.trans callback⟩
  cadDetected := h'.cadDetected.trans h.cadDetected
  lastHeaderId := h'.lastHeaderId.trans h.lastHeaderId
  lastReceivedPayload := h'.lastReceivedPayload.trans h.lastReceivedPayload
  radio := by
    obtain ⟨m, src, radio⟩ := h.radio
    obtain ⟨m', src', radio'⟩ := h'.radio
    exact ⟨m', src', by rw [radio', radio]⟩

/-- SETIDLE keeps the mapping too (R130). -/
theorem setIdle_radio (s : State) : ∃ m, (setIdle s).radio = { s.radio with hwMode := m } := by
  by_cases h : s.mode = .idle
  · exact ⟨s.radio.hwMode, by rw [setIdle_of_idle h]⟩
  · exact ⟨.standby, by rw [setIdle_of_ne_idle h]⟩

theorem setRx_radio (s : State) : ∃ m src, (setRx s).radio = { s.radio with hwMode := m, irqMap := src } := by
  by_cases h : s.mode = .rxContinuous
  · exact ⟨s.radio.hwMode, s.radio.irqMap, by rw [setRx_of_rx h]⟩
  · exact ⟨.rxContinuous, some .rxDone, by simp [setRx, h]⟩

theorem enterCad_radio (s : State) :
    (enterCad s).radio = { s.radio with hwMode := .cad, irqMap := some .cadDone } := by
  simp [enterCad]

theorem setIdle_obs (s : State) :
    (setIdle s).obs = s.obs ++ if s.mode = .idle then [] else [.radio (.writeMode .standby)] := by
  by_cases h : s.mode = .idle
  · rw [setIdle_of_idle h, if_pos h, List.append_nil]
  · rw [setIdle_of_ne_idle h, if_neg h]

theorem enterCad_obs (s : State) :
    (enterCad s).obs = s.obs ++ [.radio (.writeMode .cad), .radio (.mapIrq .cadDone)] := by
  rw [enterCad_eq, edgeOnRemap_obs, List.append_assoc]
  rfl

theorem enterCad_edgesKept {s : State} (quiet : remapQuiet [s.oracle] s) : edgesKept s (enterCad s) := by
  have quiet : flagOf s.radio.flags .cadDone = false ∨ s.oracle.remapEdge = false :=
    quiet.imp (fun none => by rw [none]; rfl) (fun deaf => deaf _ (List.mem_singleton_self _))
  rw [enterCad_eq, edgeOnRemap_of_quiet quiet]
  exact ⟨rfl, rfl⟩

/-! ## The pause of SETCAD and its end -/

/-- After M1 and M2 outside CAD: mode IDLE, and APP sleeps until the settle time has passed. -/
def cadPause (s : State) (o : Oracle) (rest : List Move) : State :=
  (((setIdle s).setScript rest).setOracle o).setApp (.busy [.setCad .m3 (s.clock + s.par.cadSettleTime)])

section
variable {n : Nat} {s : State} {o : Oracle} {rest : List Move} {d wake : Time}

theorem cadPause_modeChange : ModeChange s (cadPause s o rest) where
  session := by simp [sameSession, cadPause]
  cadDetected := by simp [cadPause]
  lastHeaderId := by simp [cadPause]
  lastReceivedPayload := by simp [cadPause]
  radio := by
    obtain ⟨m, radio⟩ := setIdle_radio s
    exact ⟨m, s.radio.irqMap, by simp [cadPause, radio]⟩

theorem runSteps_cadPause (script : s.script = .app o :: rest) :
    runSteps (n + 1) ((setIdle s).setApp (.busy [.setCad .m2 s.clock])) = runSteps n (cadPause s o rest) := by
  let t := (setIdle s).setApp (.busy [.setCad .m2 s.clock])
  let u := (t.setScript rest).setOracle o
  have scripted : t.script = .app o :: rest := by simpa [t] using script
  have waking : u.clock + u.par.cadSettleTime = s.clock + s.par.cadSettleTime := by simp [u, t]
  have pauses : appStep u = cadPause s o rest := by
    rw [appStep_setCad_m2 rfl, waking]
    rfl
  rw [runSteps_app scripted]
  exact congrArg _ pauses

/-- What M3 leaves of `s` at the time of waking, a time `d` later. -/
def cadEntered (s : State) (d : Time) (o : Oracle) : State :=
  ((enterCad (((s.setScript []).setClock (s.clock + d)).setOracle o)).setApp .idle).emit (.result .unit)

@[simp] theorem cadEntered_app : (cadEntered s d o).app = .idle := rfl

@[simp] theorem cadEntered_mode : (cadEntered s d o).mode = .cad := rfl

@[simp] theorem cadEntered_clock : (cadEntered s d o).clock = s.clock + d := by simp [cadEntered]

@[simp] theorem cadEntered_obs :
    (cadEntered s d o).obs = s.obs ++ [.radio (.writeMode .cad), .radio (.mapIrq .cadDone), .result .unit] := by
  simp [cadEntered, enterCad_obs]

theorem cadEntered_modeChange : ModeChange s (cadEntered s d o) where
  session := by simp [sameSession, cadEntered]
  cadDetected := by simp [cadEntered]
  lastHeaderId := by simp [cadEntered]
  lastReceivedPayload := by simp [cadEntered]
  radio := ⟨.cad, some .cadDone, by simp [cadEntered, enterCad_radio]⟩

/-- The radio after M3 is the one before the request but for its mode and mapping. -/
theorem ModeChange.cadEntered_radio {t : State} (h : ModeChange s t) :
    (cadEntered t d o).radio = { s.radio with hwMode := .cad, irqMap := some .cadDone } := by
  obtain ⟨m, src, radio⟩ := h.radio
  simp [cadEntered, enterCad_radio, radio]

theorem cadEntered_edgesKept (quiet : remapQuiet [o] s) : edgesKept s (cadEntered s d o) :=
  enterCad_edgesKept (s := ((s.setScript []).setClock (s.clock + d)).setOracle o) quiet

theorem runSteps_cadWake (script : s.script = [.elapse d, .app o]) (busy : s.app = .busy [.setCad .m3 wake])
    (forward : 0 ≤ d) (passed : wake ≤ s.clock + d) : runSteps 2 s = .next (cadEntered s d o) := by
  let u := ((s.setScript []).setClock (s.clock + d)).setOracle o
  have wakes : appStep u = cadEntered s d o := appStep_setCad_awake (s := u) busy passed
  rw [runSteps_elapse script, max_eq_right forward, runSteps_app rfl]
  exact congrArg _ wakes

/-- The state after the oldest invocation has run H2g's SETRX. -/
def afterH2gRx (x : IrqLocals) (o : Oracle) (rest : List Move) (s : State) : State :=
  let t := setRx ((s.setScript rest).setOracle o)
  t.setIsrs (t.isrs.set 0 [.irq .h2h x])

theorem afterH2gRx_modeChange {x : IrqLocals} : ModeChange s (afterH2gRx x o rest s) where
  session := by simp [sameSession, afterH2gRx]
  cadDetected := by simp [afterH2gRx]
  lastHeaderId := by simp [afterH2gRx]
  lastReceivedPayload := by simp [afterH2gRx]
  radio := setRx_radio ((s.setScript rest).setOracle o)

theorem runSteps_h2gRx {x : IrqLocals} (script : s.script = .isr 0 o :: rest)
    (here : s.isrs[0]? = some [.irq .h2gRx x]) (live : s.life = .live) :
    runSteps (n + 1) s = runSteps n (afterH2gRx x o rest s) :=
  runSteps_isr script here (by simp [live])

end

/-- Settles O23: M1, then from the pause M3 asleep, M3 awake, and M3 awake after a handler's SETRX. -/
theorem setCadForcesIdleThenSettles : Obligations.SetCadForcesIdleThenSettles := by
  intro s o₁ o₂ o₃ d idle live
  refine ⟨exec_setCad_of_cad idle live, fun notCad => ?request, fun v wake busy => ⟨appStep_setCad_asleep busy, ?wakes⟩⟩
  case wakes =>
    intro passed
    rw [appStep_setCad_awake busy passed, enterCad_answered]
    rfl
  case request =>
    obtain ⟨hw, radio⟩ := setIdle_radio s
    refine ⟨_, exec_setCad_of_ne_cad idle live notCad, setIdle_mode s, by simp [radio], setIdle_obs s,
      ?asleep, ?awake, ?handler⟩
    case asleep =>
      intro script settles
      let u := ((cadPause s o₁ [.app o₂]).setScript []).setOracle o₂
      have early : u.clock < s.clock + s.par.cadSettleTime := by simpa [u, cadPause] using settles
      have stays : appStep u = u := appStep_setCad_asleep rfl early
      refine ⟨u, ?_, by simp [u, cadPause], by simp [u, cadPause], by simp [u, cadPause]⟩
      rw [runSteps_cadPause script, runSteps_app rfl]
      exact congrArg _ stays
    case awake =>
      intro script settled forward
      let v := cadPause s o₁ [.elapse d, .app o₃]
      have passed : s.clock + s.par.cadSettleTime ≤ v.clock + d := by simpa [v, cadPause] using settled
      have edges (h : remapQuiet [o₃] s) : edgesKept s (cadEntered v d o₃) := by
        have quiet : remapQuiet [o₃] v := by simpa [remapQuiet, v, cadPause, radio] using h
        simpa [edgesKept, v, cadPause] using cadEntered_edgesKept (d := d) quiet
      have ends : runSteps 2 v = .next (cadEntered v d o₃) :=
        runSteps_cadWake (by simp [v, cadPause]) (by simp [v, cadPause]) forward passed
      have pause : ModeChange s v := cadPause_modeChange
      have kept := pause.trans (cadEntered_modeChange (d := d) (o := o₃))
      exact ⟨cadEntered v d o₃, (runSteps_cadPause script).trans ends, cadEntered_app, cadEntered_mode,
        kept.cadDetected, kept.lastHeaderId, kept.lastReceivedPayload, kept.session, by simp [v, cadPause],
        pause.cadEntered_radio, edges, by simp [v, cadPause]⟩
    case handler =>
      intro x here script settled forward
      let p := cadPause s o₁ [.isr 0 o₂, .elapse d, .app o₃]
      let v := afterH2gRx x o₂ [.elapse d, .app o₃] p
      have here : p.isrs[0]? = some [.irq .h2gRx x] := by simpa [p, cadPause] using here
      have received (n : Nat) :
          runSteps (n + 2) ((setIdle s).setApp (.busy [.setCad .m2 s.clock])) = runSteps n v :=
        (runSteps_cadPause script).trans (runSteps_h2gRx (by simp [cadPause]) here (by simp [cadPause, live]))
      have asleep : v.app = .busy [.setCad .m3 (s.clock + s.par.cadSettleTime)] := by simp [v, p, afterH2gRx, cadPause]
      have passed : s.clock + s.par.cadSettleTime ≤ v.clock + d := by simpa [v, p, afterH2gRx, cadPause] using settled
      have ends : runSteps 2 v = .next (cadEntered v d o₃) :=
        runSteps_cadWake (by simp [v, afterH2gRx]) asleep forward passed
      have pause : ModeChange s v := cadPause_modeChange.trans afterH2gRx_modeChange
      have kept := pause.trans (cadEntered_modeChange (d := d) (o := o₃))
      exact ⟨v, cadEntered v d o₃, received 0, by simp [v, afterH2gRx], (received 2).trans ends, cadEntered_app,
        cadEntered_mode, kept.cadDetected, kept.lastHeaderId, kept.lastReceivedPayload, kept.session,
        by simp [v, p, afterH2gRx, cadPause], pause.cadEntered_radio⟩

end Sys2Proof.Machine
end

section
/-! PROOFS. Runs in pieces: which moves take the machine from one control state of APP to another, whatever moves follow; the two argument checks (O13, O15) and WAITPACKETSENT (O24). -/

namespace Sys2Proof.Machine

/-! ## Pieces of a run -/

/-- `s` with the moves still to come and APP's control state put in. -/
def placed (rest : List Move) (a : AppCtl) (s : State) : State := (s.setScript rest).setApp a

/-- The moves take the machine from control state `a` of APP and `s` to `b` and `t`, whatever moves follow. -/
def Reaches (moves : List Move) (a : AppCtl) (s : State) (b : AppCtl) (t : State) : Prop :=
  ∀ n rest, runSteps (n + moves.length) (placed (moves ++ rest) a s) = runSteps n (placed rest b t)

theorem placed_of_app_eq {rest : List Move} {a : AppCtl} {s : State} (h : s.app = a) :
    placed rest a s = s.setScript rest := by
  subst h
  rfl

theorem Reaches.refl (a : AppCtl) (s : State) : Reaches [] a s a s := fun _ _ => rfl

theorem Reaches.trans {ms ms' : List Move} {a b c : AppCtl} {s t u : State} (h : Reaches ms a s b t)
    (h' : Reaches ms' b t c u) : Reaches (ms ++ ms') a s c u := by
  intro n rest
  calc runSteps (n + (ms ++ ms').length) (placed (ms ++ ms' ++ rest) a s)
    _ = runSteps (n + ms'.length + ms.length) (placed (ms ++ (ms' ++ rest)) a s) := by
      rw [List.append_assoc, List.length_append, Nat.add_comm ms.length, ← Nat.add_assoc]
    _ = runSteps (n + ms'.length) (placed (ms' ++ rest) b t) := h _ _
    _ = runSteps n (placed rest c u) := h' n rest

/-- A run that has nothing to follow it. -/
theorem Reaches.run {ms : List Move} {a b : AppCtl} {s t : State} (h : Reaches ms a s b t) (script : s.script = ms) :
    runSteps ms.length (s.setApp a) = .next (placed [] b t) := by
  have start : placed (ms ++ []) a s = s.setApp a := by
    rw [List.append_nil, ← script]
    rfl
  have ends := h 0 []
  rwa [Nat.zero_add, start] at ends

section
variable {ms : List Move} {o : Oracle} {st st' : Stack} {a b : AppCtl} {s t : State}

/-- A step of APP that goes on or ends its operation. -/
theorem Reaches.app (oracle : s.oracle = o)
    (turn : ∀ rest, settleApp (stepStack st (placed rest (.busy st) s)) = placed rest b t) :
    Reaches [.app o] (.busy st) s b t := by
  intro n rest
  have answered : ((placed (.app o :: rest) (.busy st) s).setScript rest).setOracle o = placed rest (.busy st) s := by
    rw [← oracle]
    rfl
  refine (runSteps_busy (rest := rest) rfl rfl).trans (congrArg (runSteps n) ?_)
  exact (congrArg (fun u => settleApp (stepStack st u)) answered).trans (turn rest)

/-- A step of APP that goes on after an operation `f` on the shared state. -/
theorem Reaches.app_go {f : State → State} (oracle : s.oracle = o)
    (go : ∀ rest, stepStack st (placed rest (.busy st) s) = .go st' (f (placed rest (.busy st) s)))
    (commutes : ∀ rest, f (placed rest (.busy st) s) = placed rest (.busy st) (f s)) :
    Reaches [.app o] (.busy st) s (.busy st') (f s) := by
  refine .app oracle fun rest => ?_
  rw [go, commutes]
  rfl

/-- An operation that ends leaves APP idle and its result handed over (R17). -/
theorem settleApp_resume_nil (v : Value) (rest : List Move) (a : AppCtl) (s : State) :
    settleApp (resume v [] (placed rest a s)) = placed rest .idle (s.emit (.result v)) := rfl

/-- The first move of APP brings the oracle's answers. -/
theorem Reaches.of_answered (h : Reaches (.app o :: ms) (.busy st) (s.setOracle o) b t) :
    Reaches (.app o :: ms) (.busy st) s b t := by
  intro n rest
  rw [← h n rest]
  exact (runSteps_busy rfl rfl).trans (runSteps_busy rfl rfl).symm

theorem Reaches.elapse {d : Time} (forward : 0 ≤ d) :
    Reaches [.elapse d] a s a (s.setClock (s.clock + d)) := by
  intro n rest
  refine (runSteps_elapse (rest := rest) rfl).trans ?_
  rw [max_eq_right forward]
  rfl

end

/-! ## The start of an operation on APP -/

/-- An operation whose first step goes on makes APP busy and changes nothing else (log 1). -/
theorem startApp_go {s : State} {f : Frame} {st : Stack} (idle : s.app = .idle) (live : s.life = .live)
    (go : stepStack [f] s = .go st s) : startApp f s = .next (s.setApp (.busy st)) := by
  rw [startApp, gate_of_ready idle live, guarded_none, go, settleApp_go]

/-- An operation whose first step ends it leaves its result and nothing else. -/
theorem startApp_done {s : State} {f : Frame} {v : Value} (idle : s.app = .idle) (live : s.life = .live)
    (done : stepStack [f] s = .done v s) : startApp f s = .next { s with obs := s.obs ++ [.result v] } := by
  rw [startApp, gate_of_ready idle live, guarded_none, done, settleApp_done, setApp_self idle]
  rfl

/-! ## The argument checks S0 and W0 (R151, R161) -/

theorem tooLong_of_lt {p : Bytes} {codec : Option Handle} (h : 255 < frameLen p.length codec) :
    tooLong p codec = true :=
  decide_eq_true h

theorem tooLong_of_le {p : Bytes} {codec : Option Handle} (h : frameLen p.length codec ≤ 255) :
    tooLong p codec = false :=
  decide_eq_false (not_lt.mpr h)

section
variable {a : SendArgs} {caller : Stack} {s : State}

theorem sendS0_of_tooLong (h : tooLong a.payload s.cfg.codec = true) :
    sendS0 a caller s = resume (.bool false) caller s := if_pos h

theorem sendS0_of_fits (h : tooLong a.payload s.cfg.codec = false) :
    sendS0 a caller s = .go (.send .s1 a [] :: caller) s := if_neg (ne_true_of_eq_false h)

theorem sendToWaitW0_of_tooLong {a : SendToWaitArgs} (h : tooLong a.payload s.cfg.codec = true) :
    sendToWaitW0 a caller s = resume (.bool false) caller s := if_pos h

theorem sendToWaitW0_of_fits {a : SendToWaitArgs} (h : tooLong a.payload s.cfg.codec = false) :
    sendToWaitW0 a caller s = .go (.sendToWait .w1 a 0 0 :: caller) s := if_neg (ne_true_of_eq_false h)

end

section
variable {s : State} {p : Bytes} {d i f : Byte} {retries : Nat} (idle : s.app = .idle) (live : s.life = .live)
include idle live

theorem exec_send_of_fits (fits : frameLen p.length s.cfg.codec ≤ 255) :
    exec (.send p d i f) s = .next (s.setApp (.busy [.send .s1 ⟨p, d, i, f⟩ []])) :=
  startApp_go idle live (sendS0_of_fits (tooLong_of_le fits))

theorem exec_sendToWait_of_fits (fits : frameLen p.length s.cfg.codec ≤ 255) :
    exec (.sendToWait p d f retries) s = .next (s.setApp (.busy [.sendToWait .w1 ⟨p, d, f, retries⟩ 0 0])) :=
  startApp_go idle live (sendToWaitW0_of_fits (tooLong_of_le fits))

end

/-- The bound on a frame as one on its payload, without a codec (R92). -/
theorem frameLen_none_gt_iff {n : Nat} : 255 < frameLen n none ↔ 251 < n := by
  simp only [frameLen, bodyLen, Config.headerLen]
  omega

/-- With a codec the payload is padded to blocks of 16 bytes behind its length byte (R92). -/
theorem frameLen_some_gt_iff {n : Nat} {c : Handle} : 255 < frameLen n (some c) ↔ 239 < n := by
  simp only [frameLen, bodyLen, Config.headerLen, Config.encBlock]
  omega

/-- Settles O13: the two branches of S0 on an idle APP, and FrameLen with and without a codec. -/
theorem sendChecksItsArgument : Obligations.SendChecksItsArgument := by
  intro s p d i f idle live
  refine ⟨fun long => ?_, exec_send_of_fits idle live, fun none => ?_, fun c some => ?_⟩
  · exact startApp_done idle live (sendS0_of_tooLong (tooLong_of_lt long))
  · rw [none, frameLen_none_gt_iff]
  · rw [some, frameLen_some_gt_iff]

/-- Settles O15: the two branches of W0, neither of which writes the id. -/
theorem sendToWaitChecksItsArgument : Obligations.SendToWaitChecksItsArgument := by
  intro s p d f retries idle live
  exact ⟨fun long => startApp_done idle live (sendToWaitW0_of_tooLong (tooLong_of_lt long)),
    exec_sendToWait_of_fits idle live⟩

/-! ## A wait whose result is at hand (R14, R172) -/

section
variable {c : WaitCond} {bound t0 wake : Time} {caller : Stack} {o : Oracle} {b : AppCtl} {s t : State}

theorem condHolds_modeNotTx_of_ne (h : s.mode ≠ .tx) : condHolds .modeNotTx s = true := by
  simpa [condHolds] using h

theorem condHolds_modeNotTx_of_eq (h : s.mode = .tx) : condHolds .modeNotTx s = false := by
  simp [condHolds, h]

/-- What a wait waits for does not depend on APP's control state or on the moves to come. -/
theorem condHolds_placed (rest : List Move) (a : AppCtl) : condHolds c (placed rest a s) = condHolds c s := by
  cases c <;> rfl

/-- APP's control state while it waits, about to take a sample. -/
def sampling (c : WaitCond) (bound t0 wake : Time) (caller : Stack) : AppCtl :=
  .busy (.wait .p1 c bound t0 wake :: caller)

/-- A sample of an agent that is awake ends the wait with the result `v`. -/
theorem Reaches.sample {v : Bool} (oracle : s.oracle = o) (awake : wake ≤ s.clock)
    (result : ∀ rest a,
      waitSample c bound t0 wake caller (placed rest a s) = resume (.bool v) caller (placed rest a s))
    (returns : ∀ rest a, settleApp (resume (.bool v) caller (placed rest a s)) = placed rest b t) :
    Reaches [.app o] (sampling c bound t0 wake caller) s b t := by
  refine .app oracle fun rest => ?_
  have turn := (stepWait_p1_awake (s := placed rest (sampling c bound t0 wake caller) s) awake).trans (result rest _)
  exact (congrArg settleApp turn).trans (returns rest _)

/-- A sample before the deadline, the condition true. -/
theorem Reaches.sample_holds_early (oracle : s.oracle = o) (awake : wake ≤ s.clock) (holds : condHolds c s = true)
    (early : s.clock - t0 < bound)
    (returns : ∀ rest a, settleApp (resume (.bool true) caller (placed rest a s)) = placed rest b t) :
    Reaches [.app o] (sampling c bound t0 wake caller) s b t :=
  .sample oracle awake
    (fun rest a => waitSample_holds_early (s := placed rest a s) ((condHolds_placed rest a).trans holds) early) returns

/-- A sample at the deadline or after it, the condition false. -/
theorem Reaches.sample_fails_late (oracle : s.oracle = o) (awake : wake ≤ s.clock) (fails : condHolds c s = false)
    (late : bound ≤ s.clock - t0)
    (returns : ∀ rest a, settleApp (resume (.bool false) caller (placed rest a s)) = placed rest b t) :
    Reaches [.app o] (sampling c bound t0 wake caller) s b t :=
  .sample oracle awake
    (fun rest a => waitSample_fails_late (s := placed rest a s) ((condHolds_placed rest a).trans fails) late) returns

/-- A sample with the condition true, for a caller that ignores the result: past the deadline it is open (U15). -/
theorem Reaches.sample_holds (oracle : s.oracle = o) (awake : wake ≤ s.clock) (holds : condHolds c s = true)
    (returns : ∀ v rest a, settleApp (resume (.bool v) caller (placed rest a s)) = placed rest b t) :
    Reaches [.app o] (sampling c bound t0 wake caller) s b t := by
  rcases lt_or_ge (s.clock - t0) bound with early | late
  · exact .sample_holds_early oracle awake holds early (returns true)
  · exact .sample oracle awake
      (fun rest a => waitSample_holds_late (s := placed rest a s) ((condHolds_placed rest a).trans holds) late)
      (returns s.oracle.late)

end

/-- Settles O24: the first sample finds the mode not TX; in TX the sample after the bound finds it still so. -/
theorem waitPacketSentOutcomes : Obligations.WaitPacketSentOutcomes := by
  intro s o d idle live positive
  refine ⟨_, startApp_go idle live rfl, fun mode script => ?notTx, fun mode script passed => ?tx⟩
  case notTx =>
    have early : s.clock - s.clock < s.cfg.waitPacketSentTimeout := (sub_self s.clock).trans_lt positive
    have sample : Reaches [.app o] (sampling .modeNotTx s.cfg.waitPacketSentTimeout s.clock s.clock []) (s.setOracle o)
        .idle ((s.setOracle o).emit (.result (.bool true))) :=
      .sample_holds_early rfl le_rfl (condHolds_modeNotTx_of_ne mode) early fun rest a =>
        settleApp_resume_nil _ rest a _
    exact (sample.of_answered.run script).trans (congrArg _ (placed_of_app_eq idle))
  case tx =>
    have forward : 0 ≤ d := positive.le.trans passed
    let u := (s.setClock (s.clock + d)).setOracle o
    have awake : s.clock ≤ u.clock := by simpa [u] using forward
    have late : s.cfg.waitPacketSentTimeout ≤ u.clock - s.clock := by simpa [u] using passed
    have sample : Reaches [.app o] (sampling .modeNotTx s.cfg.waitPacketSentTimeout s.clock s.clock []) u
        .idle (u.emit (.result (.bool false))) :=
      .sample_fails_late rfl awake (condHolds_modeNotTx_of_eq mode) late fun rest a => settleApp_resume_nil _ rest a _
    have ends := (Reaches.elapse forward).trans sample.of_answered
    exact (ends.run script).trans (congrArg _ (placed_of_app_eq idle))

end Sys2Proof.Machine
end

section
/-! PROOFS. What the steps of SEND, SENDTOWAIT and SENDACK leave of the state (spec/42_send_retry_ack.md R150, R160, R170). -/

namespace Sys2Proof.Machine

/-! ## A mode request of APP does not look at APP's control state or at the moves to come -/

section
variable {src : IrqSource} {rest : List Move} {a : AppCtl} {s u : State}

theorem placed_edgeOnRemap :
    placed rest a (edgeOnRemap src s u) = edgeOnRemap src s (placed rest a u) :=
  apply_edgeOnRemap (placed rest a) rfl rfl rfl (fun _ => rfl) rfl

theorem setIdle_placed : setIdle (placed rest a s) = placed rest a (setIdle s) := by
  by_cases h : s.mode = .idle
  · rw [setIdle_of_idle h, setIdle_of_idle (s := placed rest a s) h]
  · rw [setIdle_of_ne_idle h, setIdle_of_ne_idle (s := placed rest a s) h]
    rfl

theorem setTx_placed : setTx (placed rest a s) = placed rest a (setTx s) := by
  by_cases h : s.mode = .tx
  · rw [setTx_of_tx h, setTx_of_tx (s := placed rest a s) h]
  · rw [setTx_of_ne_tx h, setTx_of_ne_tx (s := placed rest a s) h, placed_edgeOnRemap]
    rfl

theorem setRx_placed : setRx (placed rest a s) = placed rest a (setRx s) := by
  by_cases h : s.mode = .rxContinuous
  · rw [setRx_of_rx h, setRx_of_rx (s := placed rest a s) h]
  · rw [setRx_of_ne_rx h, setRx_of_ne_rx (s := placed rest a s) h, placed_edgeOnRemap]
    rfl

theorem enterCad_placed : enterCad (placed rest a s) = placed rest a (enterCad s) := by
  rw [enterCad_eq, enterCad_eq, placed_edgeOnRemap]
  rfl

end

/-! ## The frame condition of sending -/

/-- `t` has of `s` all that a send attempt leaves alone, edges excepted where `os` may raise one on re-mapping,
and the labels `labels` more. The mode and what the radio sends with are not spoken of. -/
structure SendLeaves (os : List Oracle) (labels : List Label) (s t : State) : Prop where
  session : sameSession s t
  lastHeaderId : t.lastHeaderId = s.lastHeaderId
  cadDetected : t.cadDetected = s.cadDetected
  lastReceivedPayload : t.lastReceivedPayload = s.lastReceivedPayload
  clock : t.clock = s.clock
  flags : t.radio.flags = s.radio.flags
  receiver : receiverKept s t
  edges : remapQuiet os s → edgesKept s t
  obs : t.obs = s.obs ++ labels

namespace SendLeaves
variable {o : Oracle} {os os' : List Oracle} {labels labels' : List Label} {s t u : State}

theorem refl (s : State) : SendLeaves os [] s s :=
  ⟨⟨rfl, rfl, rfl, rfl, rfl, rfl⟩, rfl, rfl, rfl, rfl, rfl, ⟨rfl, rfl, rfl, fun _ => rfl⟩, fun _ => ⟨rfl, rfl⟩,
    (List.append_nil _).symm⟩

theorem trans (h : SendLeaves os labels s t) (h' : SendLeaves os' labels' t u) :
    SendLeaves (os ++ os') (labels ++ labels') s u where
  session := by
    obtain ⟨par, life, hw, addr, cfg, callback⟩ := h.session
    obtain ⟨par', life', hw', addr', cfg', callback'⟩ := h'.session
    exact ⟨par'.trans par, life'.trans life, hw'.trans hw, addr'.trans addr, cfg'.trans cfg, callback'.trans callback⟩
  lastHeaderId := h'.lastHeaderId.trans h.lastHeaderId
  cadDetected := h'.cadDetected.trans h.cadDetected
  lastReceivedPayload := h'.lastReceivedPayload.trans h.lastReceivedPayload
  clock := h'.clock.trans h.clock
  flags := h'.flags.trans h.flags
  receiver := by
    obtain ⟨par, -⟩ := h.session
    obtain ⟨snr, rssi, length, apart⟩ := h.receiver
    obtain ⟨snr', rssi', length', apart'⟩ := h'.receiver
    exact ⟨snr'.trans snr, rssi'.trans rssi, length'.trans length,
      fun unshared => (apart' (par ▸ unshared)).trans (apart unshared)⟩
  edges := by
    intro quiet
    have first : remapQuiet os s := quiet.imp_right fun deaf o ho => deaf o (List.mem_append_left _ ho)
    have second : remapQuiet os' t := quiet.imp h.flags.trans fun deaf o ho => deaf o (List.mem_append_right _ ho)
    obtain ⟨isrs, latched⟩ := h.edges first
    obtain ⟨isrs', latched'⟩ := h'.edges second
    exact ⟨isrs'.trans isrs, latched'.trans latched⟩
  obs := by rw [h'.obs, h.obs, List.append_assoc]

/-- What is quiet for more answers is quiet for fewer. -/
theorem mono (sub : os ⊆ os') (h : SendLeaves os labels s t) : SendLeaves os' labels s t :=
  { h with edges := fun quiet => h.edges (quiet.imp_right fun deaf o ho => deaf o (sub ho)) }

theorem emit (h : SendLeaves os labels s t) (l : Label) : SendLeaves os (labels ++ [l]) s (t.emit l) :=
  { h with obs := by rw [State.emit_obs, h.obs, List.append_assoc] }

/-- The oracle's answers are not spoken of. -/
theorem of_setOracle (h : SendLeaves os labels (s.setOracle o) t) : SendLeaves os labels s t := { h with }

theorem setOracle (h : SendLeaves os labels s t) : SendLeaves os labels s (t.setOracle o) := { h with }

/-- APP's control state and the moves to come are not spoken of. -/
theorem placed (h : SendLeaves os labels s t) (rest : List Move) (a : AppCtl) :
    SendLeaves os labels s (placed rest a t) := { h with }

/-- The clock may be set on both sides. -/
theorem setClock (h : SendLeaves os labels s t) (c : Time) : SendLeaves os labels (s.setClock c) (t.setClock c) :=
  { h with clock := rfl }

/-- So may the verdict. -/
theorem setCad (h : SendLeaves os labels s t) (v : CadFlag) : SendLeaves os labels (s.setCad v) (t.setCad v) :=
  { h with cadDetected := rfl }

/-- The frame that SEND builds depends on the session alone (R154). -/
theorem sendFrame (h : SendLeaves os labels s t) (a : SendArgs) : sendFrame a t = sendFrame a s := by
  obtain ⟨-, -, -, addr, cfg, -⟩ := h.session
  rw [Machine.sendFrame, Machine.sendFrame, addr, cfg]

theorem ackMatches (h : SendLeaves os labels s t) : ackMatches t = ackMatches s := by
  obtain ⟨-, -, -, addr, -, -⟩ := h.session
  rw [Machine.ackMatches, Machine.ackMatches, addr, h.lastHeaderId, h.lastReceivedPayload]

/-- Re-mapping the line raises an edge only where `s` is not quiet (R65, U17). -/
theorem edgeOnRemap {src : IrqSource} (h : SendLeaves [] labels s u) :
    SendLeaves [s.oracle] labels s (edgeOnRemap src s u) := by
  unfold Machine.edgeOnRemap
  split
  next raised =>
    exact {
      session := by simpa [sameSession] using h.session
      lastHeaderId := by simpa using h.lastHeaderId
      cadDetected := by simpa using h.cadDetected
      lastReceivedPayload := by simpa using h.lastReceivedPayload
      clock := by simpa using h.clock
      flags := by simpa using h.flags
      receiver := by simpa [receiverKept] using h.receiver
      edges := by
        rintro (none | deaf)
        · rw [none] at raised
          cases src <;> simp [flagOf] at raised
        · simp [deaf s.oracle (List.mem_singleton_self _)] at raised
      obs := by simpa using h.obs }
  next => exact h.mono (List.nil_subset _)

end SendLeaves

/-- The state in which APP has handed the result `v` over. -/
def answered (v : Value) (s : State) : State := placed [] .idle (s.emit (.result v))

/-- The result is one label more. -/
theorem SendLeaves.answered {os : List Oracle} {labels : List Label} {s t : State} (h : SendLeaves os labels s t)
    (v : Value) :
    SendLeaves os (labels ++ [.result v]) s (answered v t) :=
  (h.emit _).placed [] .idle

theorem answered_obs_getLast? (v : Value) (s : State) : (answered v s).obs.getLast? = some (.result v) :=
  List.getLast?_concat

/-! ## What each step of sending leaves -/

section
variable {s : State}

/-- The labels of SETIDLE in mode `m`. -/
def idleLabels (m : Mode) : List Label := if m = .idle then [] else [.radio (.writeMode .standby)]

theorem setIdle_leaves (s : State) : SendLeaves [] (idleLabels s.mode) s (setIdle s) where
  session := by simp [sameSession]
  lastHeaderId := by simp
  cadDetected := by simp
  lastReceivedPayload := by simp
  clock := by simp
  flags := by
    obtain ⟨m, radio⟩ := setIdle_radio s
    rw [radio]
  receiver := by
    obtain ⟨m, radio⟩ := setIdle_radio s
    simp [receiverKept, radio]
  edges _ := by simp [edgesKept]
  obs := setIdle_obs s

theorem rxAfterWrite_of_apart (apart : s.par.fifoShared = false) : rxAfterWrite s = s.radio.rxPkt := by
  simp [rxAfterWrite, apart]

theorem radioFifoWriteAt0_leaves (frame : Bytes) (s : State) :
    SendLeaves [] [.radio (.fifoWriteAt0 frame)] s (radioFifoWriteAt0 frame s) where
  session := ⟨rfl, rfl, rfl, rfl, rfl, rfl⟩
  lastHeaderId := rfl
  cadDetected := rfl
  lastReceivedPayload := rfl
  clock := rfl
  flags := rfl
  receiver := ⟨rfl, rfl, rxAfterWrite_length s, rxAfterWrite_of_apart⟩
  edges _ := ⟨rfl, rfl⟩
  obs := rfl

theorem radioWritePayloadLength_leaves (n : Byte) (s : State) :
    SendLeaves [] [.radio (.writePayloadLength n)] s (radioWritePayloadLength n s) :=
  ⟨⟨rfl, rfl, rfl, rfl, rfl, rfl⟩, rfl, rfl, rfl, rfl, rfl, ⟨rfl, rfl, rfl, fun _ => rfl⟩, fun _ => ⟨rfl, rfl⟩, rfl⟩

theorem setTx_leaves (h : s.mode ≠ .tx) :
    SendLeaves [s.oracle] [.radio (.writeMode .tx), .txStart (txFrame s.radio), .radio (.mapIrq .txDone)] s
      (setTx s) := by
  rw [setTx_of_ne_tx h]
  exact .edgeOnRemap ⟨⟨rfl, rfl, rfl, rfl, rfl, rfl⟩, rfl, rfl, rfl, rfl, rfl, ⟨rfl, rfl, rfl, fun _ => rfl⟩,
    fun _ => ⟨rfl, rfl⟩, List.append_assoc _ _ _⟩

theorem setRx_leaves (h : s.mode ≠ .rxContinuous) :
    SendLeaves [s.oracle] [.radio (.writeMode .rxContinuous), .radio (.mapIrq .rxDone)] s (setRx s) := by
  rw [setRx_of_ne_rx h]
  exact .edgeOnRemap ⟨⟨rfl, rfl, rfl, rfl, rfl, rfl⟩, rfl, rfl, rfl, rfl, rfl, ⟨rfl, rfl, rfl, fun _ => rfl⟩,
    fun _ => ⟨rfl, rfl⟩, List.append_assoc _ _ _⟩

theorem enterCad_leaves (s : State) :
    SendLeaves [s.oracle] [.radio (.writeMode .cad), .radio (.mapIrq .cadDone)] s (enterCad s) := by
  rw [enterCad_eq]
  exact .edgeOnRemap ⟨⟨rfl, rfl, rfl, rfl, rfl, rfl⟩, rfl, rfl, rfl, rfl, rfl, ⟨rfl, rfl, rfl, fun _ => rfl⟩,
    fun _ => ⟨rfl, rfl⟩, List.append_assoc _ _ _⟩

end

/-! ## The transmission of a frame (R155, R156) -/

/-- The frame and its length written to the radio. -/
def loaded (frame : Bytes) (s : State) : State :=
  radioWritePayloadLength (BitVec.ofNat 8 frame.length) (radioFifoWriteAt0 frame s)

/-- The frame and its length, then TX. -/
def transmitted (frame : Bytes) (s : State) : State := setTx (loaded frame s)

/-- The labels of a transmission. -/
def transmitLabels (frame : Bytes) : List Label :=
  [.radio (.fifoWriteAt0 frame), .radio (.writePayloadLength (BitVec.ofNat 8 frame.length)), .radio (.writeMode .tx),
    .txStart frame, .radio (.mapIrq .txDone)]

section
variable {frame : Bytes} {s : State}

@[simp] theorem loaded_mode : (loaded frame s).mode = s.mode := by simp [loaded]

@[simp] theorem loaded_oracle : (loaded frame s).oracle = s.oracle := by simp [loaded]

theorem loaded_txBuf : (loaded frame s).radio.txBuf = frame := rfl

theorem loaded_txLen : (loaded frame s).radio.txLen = BitVec.ofNat 8 frame.length := rfl

/-- The length of a frame that fits is what the length register holds (R80). -/
theorem loaded_txLen_toNat (short : frame.length ≤ 255) : (loaded frame s).radio.txLen.toNat = frame.length := by
  rw [loaded_txLen, BitVec.toNat_ofNat]
  omega

/-- A frame that fits is sent whole (R63). -/
theorem txFrame_loaded (short : frame.length ≤ 255) : txFrame (loaded frame s).radio = frame := by
  rw [txFrame, loaded_txBuf, loaded_txLen_toNat short, List.take_length]

theorem loaded_leaves (frame : Bytes) (s : State) :
    SendLeaves []
      [.radio (.fifoWriteAt0 frame), .radio (.writePayloadLength (BitVec.ofNat 8 frame.length))] s (loaded frame s) :=
  (radioFifoWriteAt0_leaves frame s).trans (radioWritePayloadLength_leaves _ _)

theorem transmitted_leaves (short : frame.length ≤ 255) (mode : s.mode ≠ .tx) :
    SendLeaves [s.oracle] (transmitLabels frame) s (transmitted frame s) := by
  have sent := setTx_leaves (s := loaded frame s) (by simpa using mode)
  rw [txFrame_loaded short, loaded_oracle] at sent
  exact (loaded_leaves frame s).trans sent

/-- With no transmission-done flag set no edge comes of re-mapping, whatever the oracle answers. -/
theorem transmitted_edgesKept (mode : s.mode ≠ .tx) (unset : s.radio.flags.txDone = false) :
    edgesKept s (transmitted frame s) := by
  have leaves := loaded_leaves frame s
  obtain ⟨isrs, latched⟩ := leaves.edges (.inr nofun)
  have quiet : flagOf (loaded frame s).radio.flags .txDone = false := by
    rw [leaves.flags]
    exact unset
  rw [transmitted, setTx_of_ne_tx (by simpa using mode), edgeOnRemap_of_quiet (.inl quiet)]
  exact ⟨isrs, latched⟩

theorem transmitted_radio (mode : s.mode ≠ .tx) :
    (transmitted frame s).radio = { (loaded frame s).radio with hwMode := .tx, irqMap := some .txDone } := by
  simp [transmitted, setTx, mode]

@[simp] theorem transmitted_mode : (transmitted frame s).mode = .tx := setTx_mode _

@[simp] theorem transmitted_oracle : (transmitted frame s).oracle = s.oracle := by simp [transmitted]

end

end Sys2Proof.Machine
end

section
/-! PROOFS. A handler invocation that serves a transmission-done or CAD-done interrupt beside APP (spec/60_exceptions.md R215, R223, R224), and the channel-activity wait as SEND meets it (spec/43_cad.md R180 to R183). -/

namespace Sys2Proof.Machine

/-! ## Moves of the other agents -/

section
variable {o : Oracle} {rest : List Move} {a : AppCtl} {l l' : IrqLabel} {x x' : IrqLocals} {s t : State}

theorem takeEdge_of_live (live : s.life = .live) :
    takeEdge s =
      if s.par.isrReentrant || s.isrs.isEmpty then s.setIsrs (s.isrs ++ [newInvocation]) else s.setLatched true := by
  rw [takeEdge, live]

theorem takeEdge_placed : takeEdge (placed rest a s) = placed rest a (takeEdge s) := by
  by_cases live : s.life = .live
  · rw [takeEdge_of_live live, takeEdge_of_live (s := placed rest a s) live, apply_ite (placed rest a)]
    rfl
  · rw [takeEdge_of_not_live live, takeEdge_of_not_live (s := placed rest a s) live]

theorem raiseFlag_placed {src : IrqSource} : raiseFlag src (placed rest a s) = placed rest a (raiseFlag src s) := by
  rw [raiseFlag_eq, raiseFlag_eq, apply_ite (placed rest a), ← takeEdge_placed]
  rfl

theorem radioStep_placed {e : RadioEvent} : radioStep e (placed rest a s) = placed rest a (radioStep e s) := by
  cases e with
  | txDone stays =>
    simp only [radioStep, radioRests_eq, apply_ite (placed rest a), ← raiseFlag_placed]
    rfl
  | rxPacket b snr rssi =>
    simp only [radioStep, apply_ite (placed rest a), ← raiseFlag_placed]
    rfl
  | cadDone detected stays =>
    simp only [radioStep, radioRests_eq, apply_ite (placed rest a), ← raiseFlag_placed]
    rfl

theorem Reaches.radio {e : RadioEvent} : Reaches [.radio e] a s a (radioStep e s) := by
  intro n rest
  exact (runSteps_radio (rest := rest) rfl).trans (congrArg (runSteps n) (radioStep_placed (s := s)))

/-- A step of the one live invocation. -/
theorem Reaches.isr (oracle : s.oracle = o) (live : s.life = .live)
    (turn : ∀ rest, settleIsr 0 (stepIrq l x [] (placed rest a (s.setIsrs [[.irq l x]]))) = placed rest a t) :
    Reaches [.isr 0 o] a (s.setIsrs [[.irq l x]]) a t := by
  intro n rest
  have answered : ((placed (.isr 0 o :: rest) a (s.setIsrs [[.irq l x]])).setScript rest).setOracle o =
      placed rest a (s.setIsrs [[.irq l x]]) := by
    rw [← oracle]
    rfl
  refine (runSteps_isr (k := 0) (rest := rest) (st := [.irq l x]) rfl rfl (by simp [placed, live])).trans ?_
  exact congrArg (runSteps n)
    ((congrArg (fun u => settleIsr 0 (stepIrq l x [] u)) answered).trans (turn rest))

/-- A step of the one live invocation that goes on. -/
theorem Reaches.isr_go (oracle : s.oracle = o) (live : s.life = .live)
    (go : ∀ rest, stepIrq l x [] (placed rest a (s.setIsrs [[.irq l x]])) =
      .go [.irq l' x'] (placed rest a (t.setIsrs [[.irq l x]]))) :
    Reaches [.isr 0 o] a (s.setIsrs [[.irq l x]]) a (t.setIsrs [[.irq l' x']]) :=
  .isr oracle live fun rest => congrArg (settleIsr 0) (go rest)

theorem settleIsr_h5 {k : Nat} (quiet : s.edgeLatched = false) :
    settleIsr k (stepIrq .h5 x [] s) = (radioClearIrqFlags s).setIsrs (s.isrs.eraseIdx k) := by
  rw [stepIrq, resume_nil, settleIsr, returnFromIrq_of_quiet (by simpa using quiet), radioClearIrqFlags_isrs]

/-- H5 of the one live invocation: the flags are cleared and it returns (R225, R234). -/
theorem Reaches.isr_h5 (oracle : s.oracle = o) (live : s.life = .live) (quiet : s.edgeLatched = false) :
    Reaches [.isr 0 o] a (s.setIsrs [[.irq .h5 x]]) a ((radioClearIrqFlags s).setIsrs []) := by
  refine .isr oracle live fun rest => ?_
  rw [settleIsr_h5 (by simpa [placed] using quiet)]
  rfl

end

/-! ## Serving a transmission-done or CAD-done interrupt -/

section
variable {o : Oracle} {rest : List Move} {a : AppCtl} {l : IrqLabel} {x : IrqLocals} {s : State}

theorem setIdle_setIsrs (i : List Stack) : setIdle (s.setIsrs i) = (setIdle s).setIsrs i := by
  by_cases h : s.mode = .idle
  · rw [setIdle_of_idle h, setIdle_of_idle (s := s.setIsrs i) h]
  · rw [setIdle_of_ne_idle h, setIdle_of_ne_idle (s := s.setIsrs i) h]
    rfl

/-- The locals of an invocation after H2: the flags and the mode it read (R216). -/
def branchLocals (s : State) : IrqLocals := ⟨s.radio.flags, s.mode, [], 0, 0, ⟨0, 0, 0, 0, []⟩, []⟩

/-- H1 and H2: the flags are read and the fence picks the branch. -/
theorem reaches_branch (oracle : s.oracle = o) (live : s.life = .live) :
    Reaches (isrMoves 2 0 o) a (s.setIsrs [newInvocation]) a
      ((s.emit (.radio .readIrqFlags)).setIsrs [[.irq (irqBranch s.mode s.radio.flags) (branchLocals s)]]) := by
  let u := s.emit (.radio .readIrqFlags)
  let x : IrqLocals := ⟨s.radio.flags, .sleep, [], 0, 0, ⟨0, 0, 0, 0, []⟩, []⟩
  have flagsRead : Reaches [.isr 0 o] a (s.setIsrs [newInvocation]) a (u.setIsrs [[.irq .h2 x]]) :=
    .isr_go oracle live fun _ => rfl
  have modeRead : Reaches [.isr 0 o] a (u.setIsrs [[.irq .h2 x]]) a
      (u.setIsrs [[.irq (irqBranch s.mode s.radio.flags) (branchLocals s)]]) := .isr_go oracle live fun _ => rfl
  exact flagsRead.trans modeRead

/-- A step of the handler that calls SETIDLE: H3 and H4b. -/
theorem Reaches.isr_setIdle (oracle : s.oracle = o) (live : s.life = .live) (h : l = .h3 ∨ l = .h4b) :
    Reaches [.isr 0 o] a (s.setIsrs [[.irq l x]]) a ((setIdle s).setIsrs [[.irq .h5 x]]) := by
  refine .isr_go oracle live fun rest => ?_
  have step (u : State) : stepIrq l x [] u = .go [.irq .h5 x] (setIdle u) := by
    rcases h with rfl | rfl <;> rfl
  rw [step, setIdle_placed, setIdle_setIsrs]

/-- `s` after a handler that sets IDLE from another mode and clears the flags (R223, R224). -/
def idledByHandler (s : State) : State :=
  { s with
    mode := .idle
    radio := { s.radio with hwMode := .standby, flags := ⟨false, false, false, false⟩ }
    isrs := []
    obs := s.obs ++ [.radio .readIrqFlags, .radio (.writeMode .standby), .radio .clearIrqFlags] }

theorem radioClearIrqFlags_setIdle (mode : s.mode ≠ .idle) :
    (radioClearIrqFlags (setIdle (s.emit (.radio .readIrqFlags)))).setIsrs [] = idledByHandler s := by
  rw [setIdle_of_ne_idle (s := s.emit _) mode]
  simp [radioClearIrqFlags, idledByHandler, State.emit, State.setRadio, State.setIsrs, FlagSet.empty]

/-- A transmission-done interrupt in mode TX: H1, H2, H3, H5 (R223). -/
theorem reaches_txDoneServed (oracle : s.oracle = o) (live : s.life = .live) (quiet : s.edgeLatched = false)
    (mode : s.mode = .tx) (flag : s.radio.flags.txDone = true) :
    Reaches (isrMoves 4 0 o) a (s.setIsrs [newInvocation]) a (idledByHandler s) := by
  have branch : irqBranch s.mode s.radio.flags = .h3 := by simp [irqBranch, mode, flag]
  have sampled := reaches_branch (a := a) oracle live
  have idled := Reaches.isr_setIdle (s := s.emit (.radio .readIrqFlags)) (a := a) (x := branchLocals s) oracle live
    (.inl branch)
  have returned := Reaches.isr_h5 (s := setIdle (s.emit (.radio .readIrqFlags))) (a := a) (x := branchLocals s)
    (by simpa using oracle) (by simpa using live) (by simpa using quiet)
  rw [radioClearIrqFlags_setIdle (by simp [mode])] at returned
  exact sampled.trans (idled.trans returned)

/-- A CAD-done interrupt in mode CAD: H1, H2, H4a, H4b, H5, the verdict written before the mode (R224). -/
theorem reaches_cadDoneServed (oracle : s.oracle = o) (live : s.life = .live) (quiet : s.edgeLatched = false)
    (mode : s.mode = .cad) (flag : s.radio.flags.cadDone = true) :
    Reaches (isrMoves 5 0 o) a (s.setIsrs [newInvocation]) a
      (idledByHandler (s.setCad (cadVerdict s.radio.flags))) := by
  have branch : irqBranch s.mode s.radio.flags = .h4a := by simp [irqBranch, mode, flag]
  let u := s.setCad (cadVerdict s.radio.flags)
  have sampled := reaches_branch (a := a) oracle live
  rw [branch] at sampled
  have judged : Reaches [.isr 0 o] a ((s.emit (.radio .readIrqFlags)).setIsrs [[.irq .h4a (branchLocals s)]]) a
      ((u.emit (.radio .readIrqFlags)).setIsrs [[.irq .h4b (branchLocals s)]]) := .isr_go oracle live fun _ => rfl
  have idled := Reaches.isr_setIdle (s := u.emit (.radio .readIrqFlags)) (a := a) (x := branchLocals s) oracle live
    (.inr rfl)
  have returned := Reaches.isr_h5 (s := setIdle (u.emit (.radio .readIrqFlags))) (a := a) (x := branchLocals s)
    (by simpa [u] using oracle) (by simpa [u] using live) (by simpa [u] using quiet)
  rw [radioClearIrqFlags_setIdle (by simp [u, mode])] at returned
  exact sampled.trans (judged.trans (idled.trans returned))

/-! ## RADIO raises the line (R64, R65) -/

theorem takeEdge_of_noIsrs (live : s.life = .live) (noIsrs : s.isrs = []) :
    takeEdge s = s.setIsrs [newInvocation] := by
  rw [takeEdge_of_live live, noIsrs, List.isEmpty_nil, Bool.or_true, if_pos rfl, List.nil_append]

/-- RADIO sets a flag the line is mapped to: a handler invocation starts. -/
theorem raiseFlag_raises {src : IrqSource} (live : s.life = .live) (noIsrs : s.isrs = [])
    (line : s.radio.irqMap = some src) (unset : flagOf s.radio.flags src = false) :
    raiseFlag src s = (s.setRadio { s.radio with flags := addFlag s.radio.flags src }).setIsrs [newInvocation] := by
  rw [raiseFlag_eq, if_pos ⟨line, unset⟩]
  exact takeEdge_of_noIsrs live noIsrs

/-- RADIO ends a transmission: the line rises and a handler invocation starts. -/
theorem radioStep_txDone_raises (stays : Bool) (live : s.life = .live) (noIsrs : s.isrs = [])
    (hw : s.radio.hwMode = .tx) (line : s.radio.irqMap = some .txDone) (unset : s.radio.flags.txDone = false) :
    radioStep (.txDone stays) s =
      State.setIsrs
        { s with
          radio :=
            { s.radio with
              hwMode := if stays then .tx else .standby
              flags := { s.radio.flags with txDone := true } } }
        [newInvocation] := by
  rw [radioStep_txDone_of_tx stays hw, radioRests_eq, hw]
  exact raiseFlag_raises live noIsrs line unset

/-- RADIO ends a CAD cycle: the line rises and a handler invocation starts. -/
theorem radioStep_cadDone_raises (detected stays : Bool) (live : s.life = .live) (noIsrs : s.isrs = [])
    (hw : s.radio.hwMode = .cad) (line : s.radio.irqMap = some .cadDone) (unset : s.radio.flags.cadDone = false) :
    radioStep (.cadDone detected stays) s =
      State.setIsrs
        { s with
          radio :=
            { s.radio with
              hwMode := if stays then .cad else .standby
              flags := { s.radio.flags with cadDone := true, cadDetected := s.radio.flags.cadDetected || detected } } }
        [newInvocation] := by
  rw [radioStep_cadDone_of_cad detected stays hw, radioRests_eq, State.setRadio_radio, hw]
  exact raiseFlag_raises live noIsrs line unset

end

end Sys2Proof.Machine
end

section
/-! PROOFS. The channel-activity wait as its caller meets it (spec/43_cad.md R180 to R183): SETCAD run in place, one clear cycle, a time that runs out. -/

namespace Sys2Proof.Machine

section
variable {o : Oracle} {caller : Stack} {b : AppCtl} {t0 wake d : Time} {s t : State}

/-- K1 with SETCAD's steps in place, from a mode other than CAD: the pause passes and K2 is next (R134, R180). -/
theorem reaches_cadEntered (oracle : s.oracle = o) (notCad : s.mode ≠ .cad) (forward : 0 ≤ d)
    (settled : s.par.cadSettleTime ≤ d) :
    Reaches (appMoves 2 o ++ .elapse d :: appMoves 1 o) (.busy (.waitCad .k1 t0 wake :: caller)) s
      (.busy (.waitCad .k2 t0 (s.clock + d) :: caller)) (enterCad ((setIdle s).setClock (s.clock + d))) := by
  let v := (setIdle s).setClock (s.clock + d)
  let calling : Stack := .waitCad .k1 t0 wake :: caller
  have idled : Reaches [.app o] (.busy calling) s (.busy (.setCad .m2 s.clock :: calling)) (setIdle s) :=
    .app_go oracle (fun _ => if_neg notCad) fun _ => setIdle_placed
  have pausing : Reaches [.app o] (.busy (.setCad .m2 s.clock :: calling)) (setIdle s)
      (.busy (.setCad .m3 (s.clock + s.par.cadSettleTime) :: calling)) (setIdle s) := by
    refine .app (by simpa using oracle) fun rest => ?_
    rw [← setIdle_clock s, ← setIdle_par s]
    rfl
  have paused : Reaches [.elapse d] (.busy (.setCad .m3 (s.clock + s.par.cadSettleTime) :: calling)) (setIdle s)
      (.busy (.setCad .m3 (s.clock + s.par.cadSettleTime) :: calling)) v := by
    have waits := Reaches.elapse (a := .busy (.setCad .m3 (s.clock + s.par.cadSettleTime) :: calling))
      (s := setIdle s) forward
    rwa [setIdle_clock] at waits
  have entered : Reaches [.app o] (.busy (.setCad .m3 (s.clock + s.par.cadSettleTime) :: calling)) v
      (.busy (.waitCad .k2 t0 (s.clock + d) :: caller)) (enterCad v) := by
    refine .app (by simpa [v] using oracle) fun rest => ?_
    have awake : ¬ v.clock < s.clock + s.par.cadSettleTime := by simpa [v] using settled
    have reading : s.clock + d = (enterCad v).clock := by simp [v]
    let p := placed rest (.busy (.setCad .m3 (s.clock + s.par.cadSettleTime) :: calling)) v
    have turn : stepStack (.setCad .m3 (s.clock + s.par.cadSettleTime) :: calling) p =
        resume .unit calling (enterCad p) := if_neg awake
    rw [turn, enterCad_placed, reading]
    rfl
  exact idled.trans (pausing.trans (paused.trans entered))

/-- K2 of an agent that is awake: the mode is IDLE and the verdict CLEAR (exit (a) of R182). -/
theorem Reaches.cad_clear (oracle : s.oracle = o) (awake : wake ≤ s.clock) (idle : s.mode = .idle)
    (clear : s.cadDetected = .clear)
    (returns : ∀ rest a, settleApp (resume (.cad .clear) caller (placed rest a s)) = placed rest b t) :
    Reaches [.app o] (.busy (.waitCad .k2 t0 wake :: caller)) s b t := by
  refine .app oracle fun rest => ?_
  let p := placed rest (.busy (.waitCad .k2 t0 wake :: caller)) s
  have turn : stepWaitCad .k2 t0 wake caller p = resume (.cad .clear) caller p :=
    (if_neg (not_lt.mpr awake)).trans (if_pos ⟨idle, clear⟩)
  exact (congrArg settleApp turn).trans (returns rest _)

/-- K2 of an agent that is awake: no verdict can be had in this mode and the time has run out (exit (c) of R182). -/
theorem Reaches.cad_busy (oracle : s.oracle = o) (awake : wake ≤ s.clock) (mode : s.mode ≠ .idle)
    (late : s.cfg.cadTimeout ≤ s.clock - t0)
    (returns : ∀ rest a,
      settleApp (resume (.cad .busy) caller (placed rest a (s.emit .channelBusy))) = placed rest b t) :
    Reaches [.app o] (.busy (.waitCad .k2 t0 wake :: caller)) s b t := by
  refine .app oracle fun rest => ?_
  let p := placed rest (.busy (.waitCad .k2 t0 wake :: caller)) s
  have turn : stepWaitCad .k2 t0 wake caller p = resume (.cad .busy) caller (p.emit .channelBusy) :=
    (if_neg (not_lt.mpr awake)).trans ((if_neg fun h => mode h.1).trans (if_pos late))
  exact (congrArg settleApp turn).trans (returns rest _)

/-- The labels of one CAD cycle from SETCAD's end on, a handler invocation having served it. -/
def cadCycleLabels : List Label :=
  [.radio (.writeMode .cad), .radio (.mapIrq .cadDone), .radio .readIrqFlags, .radio (.writeMode .standby),
    .radio .clearIrqFlags]

/-- `s` after one CAD cycle that found the channel clear, the mode IDLE again (R224). -/
def cadCleared (d : Time) (s : State) : State :=
  { s with
    mode := .idle
    cadDetected := .clear
    clock := s.clock + d
    radio :=
      { s.radio with hwMode := .standby, flags := ⟨false, false, false, false⟩, irqMap := some .cadDone }
    isrs := []
    obs := (setIdle s).obs ++ cadCycleLabels }

/-- SETIDLE writes the mode on both sides and its label. -/
theorem setIdle_eq (s : State) :
    ∃ m, setIdle s = { s with mode := .idle, radio := { s.radio with hwMode := m }, obs := (setIdle s).obs } := by
  by_cases h : s.mode = .idle
  · exact ⟨s.radio.hwMode, by rw [setIdle_of_idle h, ← h]⟩
  · exact ⟨.standby, by rw [setIdle_of_ne_idle h]⟩

/-- `s` in mode CAD a time `d` after SETCAD began its pause, no edge having come of re-mapping. -/
def inCad (d : Time) (s : State) : State :=
  { s with
    mode := .cad
    clock := s.clock + d
    radio := { s.radio with hwMode := .cad, irqMap := some .cadDone }
    obs := (setIdle s).obs ++ [.radio (.writeMode .cad), .radio (.mapIrq .cadDone)] }

theorem enterCad_setIdle (unset : s.radio.flags.cadDone = false) :
    enterCad ((setIdle s).setClock (s.clock + d)) = inCad d s := by
  obtain ⟨m, idled⟩ := setIdle_eq s
  have unset : flagOf ((setIdle s).setClock (s.clock + d)).radio.flags .cadDone = false := by
    rw [idled]
    exact unset
  rw [enterCad_eq, edgeOnRemap_of_quiet (.inl unset), List.append_assoc, idled, inCad, idled]
  rfl

/-- The radio with the flag of a CAD cycle that detected nothing, resting in CAD or not (R64, U18). -/
def cadReported (stays : Bool) (s : State) : State :=
  { s with
    radio := { s.radio with hwMode := if stays then .cad else .standby, flags := ⟨false, false, true, false⟩ } }

theorem radioStep_inCad (stays : Bool) (live : s.life = .live) (noIsrs : s.isrs = [])
    (unset : s.radio.flags = ⟨false, false, false, false⟩) :
    radioStep (.cadDone false stays) (inCad d s) = (cadReported stays (inCad d s)).setIsrs [newInvocation] := by
  have unset : (inCad d s).radio.flags = ⟨false, false, false, false⟩ := unset
  rw [radioStep_cadDone_raises (s := inCad d s) false stays live noIsrs rfl rfl (by rw [unset]), unset]
  rfl

theorem idledByHandler_cadReported (stays : Bool) :
    idledByHandler ((cadReported stays (inCad d s)).setCad .clear) = cadCleared d s := by
  have labels := List.append_assoc (setIdle s).obs [.radio (.writeMode .cad), .radio (.mapIrq .cadDone)]
    [.radio .readIrqFlags, .radio (.writeMode .standby), .radio .clearIrqFlags]
  exact congrArg (fun l => { cadCleared d s with obs := l }) labels

/-- From K1 to the sample after one CAD cycle that a handler invocation has served, nothing being detected. -/
theorem reaches_cadCleared (stays : Bool) (oracle : s.oracle = o) (live : s.life = .live) (notCad : s.mode ≠ .cad)
    (noIsrs : s.isrs = []) (quiet : s.edgeLatched = false) (unset : s.radio.flags = ⟨false, false, false, false⟩)
    (forward : 0 ≤ d) (settled : s.par.cadSettleTime ≤ d) :
    Reaches (appMoves 2 o ++ .elapse d :: .app o :: .radio (.cadDone false stays) :: isrMoves 5 0 o)
      (.busy (.waitCad .k1 t0 wake :: caller)) s (.busy (.waitCad .k2 t0 (s.clock + d) :: caller))
      (cadCleared d s) := by
  have entered := reaches_cadEntered (caller := caller) (t0 := t0) (wake := wake) oracle notCad forward settled
  rw [enterCad_setIdle (by rw [unset])] at entered
  have reported := Reaches.radio (e := .cadDone false stays) (a := .busy (.waitCad .k2 t0 (s.clock + d) :: caller))
    (s := inCad d s)
  rw [radioStep_inCad stays live noIsrs unset] at reported
  have served := reaches_cadDoneServed (a := .busy (.waitCad .k2 t0 (s.clock + d) :: caller))
    (s := cadReported stays (inCad d s)) oracle live quiet rfl rfl
  have ends := idledByHandler_cadReported (s := s) (d := d) stays
  exact entered.trans (reported.trans (ends ▸ served))

end

end Sys2Proof.Machine
end

section
/-! PROOFS. A whole SEND under any caller (spec/42_send_retry_ack.md R150, R152 to R156), and as APP's own operation (O14). -/

namespace Sys2Proof.Machine

section
variable {o : Oracle} {a : SendArgs} {fr : Bytes} {caller : Stack} {b : AppCtl} {g : Time} {x : Sensing} {s t : State}

/-! ## S1 and S2: the wait for a prior transmission, then IDLE -/

/-- The time S1 takes: none outside TX, and in TX the time in which no interrupt came. -/
def priorTime (m : Mode) (g : Time) : Time := if m = .tx then g else 0

/-- `s` after S1 and S2. -/
def afterPrior (g : Time) (s : State) : State := setIdle (s.setClock (s.clock + priorTime s.mode g))

/-- S1 ends at its first sample, or in TX at a sample past its bound, and SEND goes on either way (R152). -/
theorem reaches_afterPrior (oracle : s.oracle = o)
    (passes : s.mode = .tx → 0 ≤ g ∧ s.cfg.waitPacketSentTimeout ≤ g) :
    Reaches (priorMoves s.mode g o) (.busy (.send .s1 a fr :: caller)) s (.busy (.send .s3 a fr :: caller))
      (afterPrior g s) := by
  let waiting := sampling .modeNotTx s.cfg.waitPacketSentTimeout s.clock s.clock (.send .s1 a fr :: caller)
  have begun : Reaches [.app o] (.busy (.send .s1 a fr :: caller)) s waiting s := .app oracle fun _ => rfl
  have idled (u : State) (oracle : u.oracle = o) : Reaches [.app o] (.busy (.send .s2 a fr :: caller)) u
      (.busy (.send .s3 a fr :: caller)) (setIdle u) := .app_go oracle (fun _ => rfl) fun _ => setIdle_placed
  unfold priorMoves afterPrior priorTime
  split
  next tx =>
    obtain ⟨forward, late⟩ := passes tx
    let u := s.setClock (s.clock + g)
    have sampled : Reaches [.app o] waiting u (.busy (.send .s2 a fr :: caller)) u :=
      .sample_fails_late oracle (by simpa [u] using forward) (condHolds_modeNotTx_of_eq tx) (by simpa [u] using late)
        fun _ _ => rfl
    exact begun.trans ((Reaches.elapse forward).trans (sampled.trans (idled u oracle)))
  next notTx =>
    have sampled : Reaches [.app o] waiting s (.busy (.send .s2 a fr :: caller)) s :=
      .sample_holds oracle le_rfl (condHolds_modeNotTx_of_ne notTx) fun _ _ _ => rfl
    rw [add_zero]
    exact begun.trans (sampled.trans (idled s oracle))

/-! ## S3: the channel-activity wait -/

/-- `s`, in mode IDLE, after the channel-activity wait that `x` describes. -/
def Sensing.after (s : State) : Sensing → State
  | .disabled => s
  | .clear d _ => cadCleared d s
  | .busy d e => ((enterCad (s.setClock (s.clock + d))).setClock (s.clock + d + e)).emit .channelBusy

/-- S3 goes on to S4 whatever WAITCAD returns (R153). -/
theorem reaches_sensing (oracle : s.oracle = o) (live : s.life = .live) (idle : s.mode = .idle) (fits : x.fits s) :
    Reaches (x.moves o) (.busy (.send .s3 a fr :: caller)) s (.busy (.send .s4 a fr :: caller)) (x.after s) := by
  have notCad : s.mode ≠ .cad := by simp [idle]
  cases x with
  | disabled =>
    have disabled : s.cfg.cadTimeout = 0 := fits
    exact .app_go (f := id) oracle (fun _ => if_pos disabled) fun _ => rfl
  | clear d stays =>
    obtain ⟨enabled, forward, settled, noIsrs, quiet, unset⟩ := fits
    have begun : Reaches [.app o] (.busy (.send .s3 a fr :: caller)) s
        (.busy (.waitCad .k1 s.clock s.clock :: .send .s3 a fr :: caller)) s :=
      .app_go (f := id) oracle (fun _ => if_neg enabled) fun _ => rfl
    have cycle := reaches_cadCleared (caller := .send .s3 a fr :: caller) (t0 := s.clock) (wake := s.clock) stays oracle
      live notCad noIsrs quiet unset forward settled
    have sampled : Reaches [.app o] (.busy (.waitCad .k2 s.clock (s.clock + d) :: .send .s3 a fr :: caller))
        (cadCleared d s) (.busy (.send .s4 a fr :: caller)) (cadCleared d s) :=
      .cad_clear oracle le_rfl rfl rfl fun _ _ => rfl
    exact begun.trans (cycle.trans sampled)
  | busy d e =>
    obtain ⟨enabled, forward, settled, forward', late⟩ := fits
    have begun : Reaches [.app o] (.busy (.send .s3 a fr :: caller)) s
        (.busy (.waitCad .k1 s.clock s.clock :: .send .s3 a fr :: caller)) s :=
      .app_go (f := id) oracle (fun _ => if_neg enabled) fun _ => rfl
    have entered := reaches_cadEntered (caller := .send .s3 a fr :: caller) (t0 := s.clock) (wake := s.clock) oracle
      notCad forward settled
    rw [setIdle_of_idle idle] at entered
    let v := enterCad (s.setClock (s.clock + d))
    have clock : v.clock = s.clock + d := by simp [v]
    have waited := Reaches.elapse (a := .busy (.waitCad .k2 s.clock (s.clock + d) :: .send .s3 a fr :: caller))
      (s := v) forward'
    rw [clock] at waited
    have sampled : Reaches [.app o] (.busy (.waitCad .k2 s.clock (s.clock + d) :: .send .s3 a fr :: caller))
        (v.setClock (s.clock + d + e)) (.busy (.send .s4 a fr :: caller)) ((Sensing.busy d e).after s) := by
      refine .cad_busy (by simpa [v] using oracle) (by simpa using forward') (by simp [v]) ?_ fun _ _ => rfl
      simpa [v, add_assoc] using late
    exact begun.trans (entered.trans (waited.trans sampled))

/-- The wait's time and verdict apart, the frame condition of sending holds of it. -/
theorem Sensing.after_leaves (idle : s.mode = .idle) (fits : x.fits s) :
    SendLeaves [s.oracle] x.labels ((s.setClock (s.clock + x.takes)).setCad (x.verdict s.cadDetected)) (x.after s) := by
  cases x with
  | disabled =>
    have clock : s.clock + Sensing.disabled.takes = s.clock := add_zero _
    rw [clock]
    exact .refl s
  | clear d stays =>
    obtain ⟨-, -, -, noIsrs, -, unset⟩ := fits
    have obs : (cadCleared d s).obs = s.obs ++ (Sensing.clear d stays).labels := by
      rw [cadCleared, setIdle_of_idle idle]
      rfl
    exact ⟨⟨rfl, rfl, rfl, rfl, rfl, rfl⟩, rfl, rfl, rfl, rfl, unset.symm, ⟨rfl, rfl, rfl, fun _ => rfl⟩,
      fun _ => ⟨noIsrs.symm, rfl⟩, obs⟩
  | busy d e =>
    have clock : s.clock + (Sensing.busy d e).takes = s.clock + d + e := (add_assoc _ _ _).symm
    rw [clock]
    exact ((enterCad_leaves (s.setClock (s.clock + d))).setClock (s.clock + d + e)).emit .channelBusy

theorem Sensing.after_mode_ne_tx (idle : s.mode = .idle) : (x.after s).mode ≠ .tx := by
  cases x with
  | disabled => simp [Sensing.after, idle]
  | clear d stays => simp [Sensing.after, cadCleared]
  | busy d e => simp [Sensing.after]

theorem Sensing.after_oracle : (x.after s).oracle = s.oracle := by
  cases x <;> simp [Sensing.after, cadCleared]

/-! ## S4 to S5c: the transmission -/

/-- From S4 to S6 the frame is built, written and sent (R154, R155). -/
theorem reaches_transmitted (oracle : s.oracle = o) :
    Reaches (appMoves 4 o) (.busy (.send .s4 a fr :: caller)) s (.busy (.send .s6 a (sendFrame a s) :: caller))
      (transmitted (sendFrame a s) s) := by
  let frame := sendFrame a s
  have built : Reaches [.app o] (.busy (.send .s4 a fr :: caller)) s (.busy (.send .s5a a frame :: caller)) s :=
    .app_go (f := id) oracle (fun _ => rfl) fun _ => rfl
  have writes : Reaches [.app o] (.busy (.send .s5a a frame :: caller)) s (.busy (.send .s5b a frame :: caller))
      (radioFifoWriteAt0 frame s) :=
    .app_go oracle (fun _ => rfl) fun _ => rfl
  have counts : Reaches [.app o] (.busy (.send .s5b a frame :: caller)) (radioFifoWriteAt0 frame s)
      (.busy (.send .s5c a frame :: caller)) (loaded frame s) :=
    .app_go (f := radioWritePayloadLength (BitVec.ofNat 8 frame.length)) oracle (fun _ => rfl) fun _ => rfl
  have sends : Reaches [.app o] (.busy (.send .s5c a frame :: caller)) (loaded frame s)
      (.busy (.send .s6 a frame :: caller)) (transmitted frame s) :=
    .app_go (loaded_oracle.trans oracle) (fun _ => rfl) fun _ => setTx_placed
  exact built.trans (writes.trans (counts.trans sends))

/-! ## The whole of it -/

/-- `s` after S5c of a SEND that met the prior wait and the channel as `g` and `x` say. -/
def sent (a : SendArgs) (g : Time) (x : Sensing) (s : State) : State :=
  transmitted (sendFrame a s) (x.after (afterPrior g s))

/-- The labels of a SEND begun in mode `m`, before its result. -/
def sendLabels (frame : Bytes) (x : Sensing) (m : Mode) : List Label :=
  idleLabels m ++ x.labels ++ transmitLabels frame

theorem afterPrior_leaves (g : Time) (s : State) :
    SendLeaves [] (idleLabels s.mode)
      (s.setClock (s.clock + priorTime s.mode g)) (afterPrior g s) :=
  setIdle_leaves (s.setClock (s.clock + priorTime s.mode g))

@[simp] theorem afterPrior_mode : (afterPrior g s).mode = .idle := setIdle_mode _

@[simp] theorem afterPrior_oracle : (afterPrior g s).oracle = s.oracle := setIdle_oracle _

/-- S1 and S2 keep what the channel-activity wait depends on. -/
theorem Sensing.fits_afterPrior (fits : x.fits s) : x.fits (afterPrior g s) := by
  obtain ⟨⟨par, -, -, -, cfg, -⟩, -, -, -, -, flags, -, edges, -⟩ := afterPrior_leaves g s
  obtain ⟨isrs, latched⟩ := edges (.inr nofun)
  cases x <;> simpa [Sensing.fits, par, cfg, flags, isrs, latched] using fits

/-- The frame condition of SEND up to S4, the time and the verdict of its waits apart. -/
theorem sensed_leaves (fits : x.fits s) :
    SendLeaves [s.oracle] (idleLabels s.mode ++ x.labels)
      ((s.setClock (s.clock + priorTime s.mode g + x.takes)).setCad (x.verdict s.cadDetected))
      (x.after (afterPrior g s)) := by
  have prior := afterPrior_leaves g s
  have sensed := Sensing.after_leaves afterPrior_mode (Sensing.fits_afterPrior (g := g) fits)
  rw [prior.clock, prior.cadDetected, afterPrior_oracle] at sensed
  exact ((prior.setClock _).setCad _).trans sensed

/-- The frame condition of a whole SEND, the time and the verdict of its waits apart. -/
theorem sent_leaves (fits : x.fits s) (short : frameLen a.payload.length s.cfg.codec ≤ 255) :
    SendLeaves [s.oracle] (sendLabels (sendFrame a s) x s.mode)
      ((s.setClock (s.clock + priorTime s.mode g + x.takes)).setCad (x.verdict s.cadDetected)) (sent a g x s) := by
  have notTx : (x.after (afterPrior g s)).mode ≠ .tx := Sensing.after_mode_ne_tx afterPrior_mode
  have sends := transmitted_leaves (sendFrame_length (tooLong_of_le short)) notTx
  rw [Sensing.after_oracle, afterPrior_oracle] at sends
  exact ((sensed_leaves fits).trans sends).mono (by simp)

@[simp] theorem sent_mode : (sent a g x s).mode = .tx := transmitted_mode

/-- The radio transmits the frame last loaded, its line mapped to transmission-done. -/
theorem sent_radio :
    (sent a g x s).radio =
      { (loaded (sendFrame a s) (x.after (afterPrior g s))).radio with hwMode := .tx, irqMap := some .txDone } :=
  transmitted_radio (Sensing.after_mode_ne_tx afterPrior_mode)

theorem sent_oracle : (sent a g x s).oracle = s.oracle := by
  rw [sent, transmitted_oracle, Sensing.after_oracle, afterPrior_oracle]

theorem sent_txBuf : (sent a g x s).radio.txBuf = sendFrame a s := by
  rw [sent_radio]
  rfl

theorem sent_txLen : (sent a g x s).radio.txLen = BitVec.ofNat 8 (sendFrame a s).length := by
  rw [sent_radio]
  rfl

theorem sent_hwMode : (sent a g x s).radio.hwMode = .tx := by
  rw [sent_radio]

theorem sent_irqMap : (sent a g x s).radio.irqMap = some .txDone := by
  rw [sent_radio]

/-- SEND from S1 on, under any caller (R150): `returns` is what its caller does with the result. -/
theorem reaches_send (oracle : s.oracle = o) (live : s.life = .live)
    (passes : s.mode = .tx → 0 ≤ g ∧ s.cfg.waitPacketSentTimeout ≤ g) (fits : x.fits s)
    (returns : ∀ rest a', settleApp (resume (.bool true) caller (placed rest a' (sent a g x s))) = placed rest b t) :
    Reaches (sendMoves s.mode g x o) (.busy (.send .s1 a fr :: caller)) s b t := by
  let u := x.after (afterPrior g s)
  have prior := reaches_afterPrior (a := a) (fr := fr) (caller := caller) oracle passes
  have live : (afterPrior g s).life = .live := by simpa [afterPrior] using live
  have sensed := reaches_sensing (a := a) (fr := fr) (caller := caller) (afterPrior_oracle.trans oracle) live
    afterPrior_mode (Sensing.fits_afterPrior fits)
  have answers : u.oracle = o := Sensing.after_oracle.trans (afterPrior_oracle.trans oracle)
  have frame : sendFrame a u = sendFrame a s := (sensed_leaves (g := g) fits).sendFrame a
  have sends := reaches_transmitted (a := a) (fr := fr) (caller := caller) answers
  rw [frame] at sends
  have ends : Reaches [.app o] (.busy (.send .s6 a (sendFrame a s) :: caller)) (sent a g x s) b t :=
    .app (transmitted_oracle.trans answers) fun rest => returns rest _
  exact prior.trans (sensed.trans (sends.trans ends))

end

/-! ## Outside TX with channel sensing disabled -/

theorem sendMoves_disabled {m : Mode} {g : Time} {o : Oracle} (notTx : m ≠ .tx) :
    sendMoves m g .disabled o = appMoves 9 o := by
  rw [sendMoves, priorMoves, if_neg notTx]
  rfl

/-- No time passes then. -/
theorem sent_disabled_leaves {a : SendArgs} {s : State} (disabled : s.cfg.cadTimeout = 0)
    (short : frameLen a.payload.length s.cfg.codec ≤ 255) :
    SendLeaves [s.oracle] (sendLabels (sendFrame a s) .disabled s.mode) s (sent a 0 .disabled s) := by
  have leaves := sent_leaves (a := a) (g := 0) (x := .disabled) disabled short
  have still : s.clock + priorTime s.mode 0 + Sensing.disabled.takes = s.clock := by
    simp [priorTime, Sensing.takes]
  rwa [still] at leaves

theorem sent_disabled_edgesKept {a : SendArgs} {g : Time} {s : State} (unset : s.radio.flags.txDone = false) :
    edgesKept s (sent a g .disabled s) := by
  have prior := afterPrior_leaves g s
  obtain ⟨isrs, latched⟩ := prior.edges (.inr nofun)
  have unset : (afterPrior g s).radio.flags.txDone = false := by
    rw [prior.flags]
    exact unset
  obtain ⟨isrs', latched'⟩ := transmitted_edgesKept (frame := sendFrame a s) (by simp) unset
  exact ⟨isrs'.trans isrs, latched'.trans latched⟩

/-! ## SEND as APP's own operation -/

theorem sendMoves_eq_cons (m : Mode) (g : Time) (x : Sensing) (o : Oracle) :
    ∃ ms, sendMoves m g x o = .app o :: ms := by
  unfold sendMoves priorMoves
  split <;> exact ⟨_, rfl⟩

theorem Sensing.fits_setOracle {x : Sensing} {s : State} (o : Oracle) (fits : x.fits s) : x.fits (s.setOracle o) := by
  cases x <;> exact fits

/-- The length of a frame that fits is what a byte holds of it (R80). -/
theorem sendFrame_length_toNat {a : SendArgs} {s : State} (short : frameLen a.payload.length s.cfg.codec ≤ 255) :
    (BitVec.ofNat 8 (sendFrame a s).length).toNat = (sendFrame a s).length :=
  loaded_txLen_toNat (s := s) (sendFrame_length (tooLong_of_le short))

/-- Settles O14: the whole SEND with nothing to return to, and what it leaves. -/
theorem sendTransmitsItsFrame : Obligations.SendTransmitsItsFrame := by
  intro s p d i f o x g idle live passes fits short script
  let a : SendArgs := ⟨p, d, i, f⟩
  let v := s.setOracle o
  have fits : x.fits v := Sensing.fits_setOracle o fits
  have leaves := (sent_leaves (a := a) (s := v) (g := g) fits short).answered (.bool true)
  have run : Reaches (sendMoves s.mode g x o) (.busy [.send .s1 a []]) s .idle
      ((sent a g x v).emit (.result (.bool true))) := by
    have answered : Reaches (sendMoves s.mode g x o) (.busy [.send .s1 a []]) v .idle
        ((sent a g x v).emit (.result (.bool true))) :=
      reaches_send (s := v) rfl live passes fits fun rest a' => settleApp_resume_nil _ rest a' _
    obtain ⟨ms, first⟩ := sendMoves_eq_cons s.mode g x o
    rw [first] at answered ⊢
    exact answered.of_answered
  have mode : (sent a g x v).mode = .tx := sent_mode
  have hwMode : (sent a g x v).radio.hwMode = .tx := sent_hwMode
  have irqMap : (sent a g x v).radio.irqMap = some .txDone := sent_irqMap
  have buffer : (sent a g x v).radio.txBuf = sendFrame a v := sent_txBuf
  have length : (sent a g x v).radio.txLen = BitVec.ofNat 8 (sendFrame a v).length := sent_txLen
  have counted : (sent a g x v).radio.txLen.toNat = (sent a g x v).radio.txBuf.length := by
    rw [length, buffer]
    exact sendFrame_length_toNat short
  generalize sent a g x v = w at *
  refine ⟨_, answered (.bool true) w, exec_send_of_fits idle live short, ?runs, rfl, mode,
    hwMode, irqMap, buffer, counted, leaves.flags, leaves.session, leaves.lastHeaderId, leaves.cadDetected,
    leaves.lastReceivedPayload, leaves.clock, leaves.receiver, leaves.edges, ?obs⟩
  case runs =>
    rw [script]
    exact run.run script
  case obs =>
    have labels : (answered (.bool true) w).obs =
        s.obs ++ (sendLabels (sendFrame a v) x s.mode ++ [.result (.bool true)]) := leaves.obs
    rw [labels]
    simp [answered, placed, sendLabels, idleLabels, transmitLabels, buffer, length]

end Sys2Proof.Machine
end

section
/-! PROOFS. SENDTOWAIT (spec/42_send_retry_ack.md R160 to R164): one attempt, any number of attempts, and its three ends (O16, O17, O18). -/

namespace Sys2Proof.Machine

/-! ## One attempt -/

/-- The operands of the SEND that W2a runs, with the current id (R162). -/
def attemptArgs (a : SendToWaitArgs) (s : State) : SendArgs := ⟨a.payload, a.dest, s.lastHeaderId, a.flags⟩

/-- The frame that an attempt sends. -/
def attemptFrame (a : SendToWaitArgs) (s : State) : Bytes := sendFrame (attemptArgs a s) s

/-- `s` after W2b of an attempt with channel sensing disabled: the frame is sent and the block listens. -/
def attempted (a : SendToWaitArgs) (s : State) : State := setRx (sent (attemptArgs a s) 0 .disabled s)

/-- The labels of SETRX from another mode. -/
def listenLabels : List Label := [.radio (.writeMode .rxContinuous), .radio (.mapIrq .rxDone)]

/-- The labels of an attempt begun in mode `m`. -/
def attemptLabels (frame : Bytes) (m : Mode) : List Label := sendLabels frame .disabled m ++ listenLabels

/-- An attempt is one send attempt, of its frame (R63). -/
theorem attemptLabels_txStarts (frame : Bytes) (m : Mode) :
    (attemptLabels frame m).filter isTxStart = [.txStart frame] := by
  have idling : (idleLabels m).filter isTxStart = [] := by
    unfold idleLabels
    split <;> rfl
  rw [attemptLabels, sendLabels, List.filter_append, List.filter_append, List.filter_append, idling]
  rfl

/-- What an attempt needs: a live block outside TX with channel sensing disabled, and a payload that fits. -/
structure CanAttempt (a : SendToWaitArgs) (s : State) : Prop where
  live : s.life = .live
  notTx : s.mode ≠ .tx
  disabled : s.cfg.cadTimeout = 0
  short : frameLen a.payload.length s.cfg.codec ≤ 255

section
variable {o : Oracle} {a : SendToWaitArgs} {k : Nat} {r : Rat} {os : List Oracle} {labels : List Label} {s t : State}

@[simp] theorem attempted_mode : (attempted a s).mode = .rxContinuous := setRx_mode _

theorem attempted_radio :
    (attempted a s).radio =
      { (sent (attemptArgs a s) 0 .disabled s).radio with hwMode := .rxContinuous, irqMap := some .rxDone } := by
  simp [attempted, setRx]

theorem attempted_hwMode : (attempted a s).radio.hwMode = .rxContinuous := by
  rw [attempted_radio]

theorem attempted_irqMap : (attempted a s).radio.irqMap = some .rxDone := by
  rw [attempted_radio]

theorem attempted_oracle : (attempted a s).oracle = s.oracle := by
  rw [attempted, setRx_oracle, sent_oracle]

/-- The frame condition of an attempt. -/
theorem attempted_leaves (can : CanAttempt a s) :
    SendLeaves [s.oracle] (attemptLabels (attemptFrame a s) s.mode) s (attempted a s) := by
  have sends := sent_disabled_leaves (a := attemptArgs a s) can.disabled can.short
  have listens := setRx_leaves (s := sent (attemptArgs a s) 0 .disabled s) (by simp)
  rw [sent_oracle] at listens
  exact (sends.trans listens).mono (by simp)

/-- From W2 to W2c: SEND with the current id, then SETRX (R162). -/
theorem reaches_attempted (oracle : s.oracle = o) (can : CanAttempt a s) (more : k ≠ a.retries + 1) :
    Reaches (appMoves 12 o) (.busy [.sendToWait .w2 a k r]) s (.busy [.sendToWait .w2c a k r]) (attempted a s) := by
  have begun : Reaches [.app o] (.busy [.sendToWait .w2 a k r]) s (.busy [.sendToWait .w2a a k r]) s :=
    .app_go (f := id) oracle (fun _ => if_neg more) fun _ => rfl
  have checked : Reaches [.app o] (.busy [.sendToWait .w2a a k r]) s
      (.busy [.send .s1 (attemptArgs a s) [], .sendToWait .w2a a k r]) s :=
    .app_go (f := id) oracle (fun _ => sendS0_of_fits (tooLong_of_le can.short)) fun _ => rfl
  have sends : Reaches (sendMoves s.mode 0 .disabled o) (.busy [.send .s1 (attemptArgs a s) [], .sendToWait .w2a a k r])
      s (.busy [.sendToWait .w2b a k r]) (sent (attemptArgs a s) 0 .disabled s) :=
    reaches_send oracle can.live (fun tx => absurd tx can.notTx) can.disabled fun _ _ => rfl
  rw [sendMoves_disabled can.notTx] at sends
  have listens : Reaches [.app o] (.busy [.sendToWait .w2b a k r]) (sent (attemptArgs a s) 0 .disabled s)
      (.busy [.sendToWait .w2c a k r]) (attempted a s) :=
    .app_go (sent_oracle.trans oracle) (fun _ => rfl) fun _ => setRx_placed
  exact begun.trans (checked.trans (sends.trans listens))

/-! ## The wait for the acknowledgement (R163) -/

/-- The bound of W2d's wait. -/
def ackBound (s : State) : Time := s.cfg.retryTimeout * (1 + drawOf s)

theorem drawOf_nonneg (s : State) : 0 ≤ drawOf s := le_max_left _ _

theorem drawOf_le_one (s : State) : drawOf s ≤ 1 := max_le zero_le_one (min_le_left _ _)

theorem ackBound_pos (positive : 0 < s.cfg.retryTimeout) : 0 < ackBound s :=
  mul_pos positive (add_pos_of_pos_of_nonneg one_pos (drawOf_nonneg s))

/-- Whatever the draw, the bound is at most twice RETRY_TIMEOUT. -/
theorem ackBound_le (nonneg : 0 ≤ s.cfg.retryTimeout) : ackBound s ≤ 2 * s.cfg.retryTimeout := by
  have doubled : 1 + drawOf s ≤ 2 := by linarith [drawOf_le_one s]
  rw [ackBound, mul_comm]
  exact mul_le_mul_of_nonneg_right doubled nonneg

/-- APP waits in W2d from the time of `s` on. -/
def awaitingAck (a : SendToWaitArgs) (k : Nat) (s : State) : AppCtl :=
  sampling .ackMatch (ackBound s) s.clock s.clock [.sendToWait .w2d a k (drawOf s)]

/-- W2c and W2d's first step of a SENDTOWAIT to one node. -/
theorem reaches_awaitingAck (oracle : s.oracle = o) (unicast : a.dest ≠ Config.addrBroadcast) :
    Reaches (appMoves 2 o) (.busy [.sendToWait .w2c a k r]) s (awaitingAck a k s) s := by
  have goesOn : Reaches [.app o] (.busy [.sendToWait .w2c a k r]) s (.busy [.sendToWait .w2d a k r]) s :=
    .app_go (f := id) oracle (fun _ => if_neg unicast) fun _ => rfl
  have waits : Reaches [.app o] (.busy [.sendToWait .w2d a k r]) s (awaitingAck a k s) s :=
    .app_go (f := id) oracle (fun _ => rfl) fun _ => rfl
  exact goesOn.trans waits

/-! ## The three ends -/

/-- W1: the id is counted. -/
theorem reaches_counted (oracle : s.oracle = o) :
    Reaches [.app o] (.busy [.sendToWait .w1 a k r]) s (.busy [.sendToWait .w2 a 0 r])
      (s.setSeq (nextId s.lastHeaderId)) :=
  .app_go (f := fun s => s.setSeq (nextId s.lastHeaderId)) oracle (fun _ => rfl) fun _ => rfl

/-- The result is no send attempt. -/
theorem SendLeaves.txStarts {v : Value} (h : SendLeaves os (labels ++ [.result v]) s t) :
    t.obs.filter isTxStart = s.obs.filter isTxStart ++ labels.filter isTxStart := by
  rw [h.obs, List.filter_append, List.filter_append]
  exact congrArg _ (List.append_nil _)

end

/-- Settles O16: W1, one attempt, and W2c's return for the broadcast address. -/
theorem broadcastReturnsAfterOneSend : Obligations.BroadcastReturnsAfterOneSend := by
  intro s p f retries o idle live disabled notTx short script
  let a : SendToWaitArgs := ⟨p, 255, f, retries⟩
  let v := (s.setOracle o).setSeq (nextId s.lastHeaderId)
  have can : CanAttempt a v := ⟨live, notTx, disabled, short⟩
  have run : Reaches (appMoves 14 o) (.busy [.sendToWait .w1 a 0 0]) s .idle
      ((attempted a v).emit (.result (.bool true))) := by
    have counts : Reaches [.app o] (.busy [.sendToWait .w1 a 0 0]) (s.setOracle o) (.busy [.sendToWait .w2 a 0 0]) v :=
      reaches_counted rfl
    have attempts := reaches_attempted (r := 0) (s := v) rfl can (Nat.succ_ne_zero retries).symm
    have returns : Reaches [.app o] (.busy [.sendToWait .w2c a 0 0]) (attempted a v) .idle
        ((attempted a v).emit (.result (.bool true))) := .app attempted_oracle fun rest => settleApp_resume_nil _ rest _ _
    exact (counts.trans (attempts.trans returns)).of_answered
  have leaves := (attempted_leaves can).answered (.bool true)
  have starts := leaves.txStarts
  have mode : (attempted a v).mode = .rxContinuous := attempted_mode
  have hwMode : (attempted a v).radio.hwMode = .rxContinuous := attempted_hwMode
  have irqMap : (attempted a v).radio.irqMap = some .rxDone := attempted_irqMap
  rw [attemptLabels_txStarts] at starts
  generalize attempted a v = w at *
  exact ⟨_, answered (.bool true) w, exec_sendToWait_of_fits idle live short, run.run script,
    rfl, mode, hwMode, irqMap, leaves.lastHeaderId, leaves.session, leaves.lastReceivedPayload, leaves.cadDetected,
    leaves.clock, leaves.flags, leaves.receiver, leaves.edges, starts, answered_obs_getLast? _ _⟩

/-- Settles O18: W1, one attempt, and a wait whose first sample finds the stored record (R163, R269). -/
theorem staleRecordEndsTheWait : Obligations.StaleRecordEndsTheWait := by
  intro s p d f retries o record idle live disabled notTx unicast short positive stored addressed ack id script
  let a : SendToWaitArgs := ⟨p, d, f, retries⟩
  let v := (s.setOracle o).setSeq (nextId s.lastHeaderId)
  have can : CanAttempt a v := ⟨live, notTx, disabled, short⟩
  have leaves := attempted_leaves can
  have run : Reaches (appMoves 16 o) (.busy [.sendToWait .w1 a 0 0]) s .idle
      ((attempted a v).emit (.result (.bool true))) := by
    have counts : Reaches [.app o] (.busy [.sendToWait .w1 a 0 0]) (s.setOracle o) (.busy [.sendToWait .w2 a 0 0]) v :=
      reaches_counted rfl
    have attempts := reaches_attempted (r := 0) (s := v) rfl can (Nat.succ_ne_zero retries).symm
    have waits := reaches_awaitingAck (a := a) (k := 0) (r := 0) (s := attempted a v) attempted_oracle unicast
    have holds : ackMatches (attempted a v) = true := by
      rw [leaves.ackMatches]
      exact (ackMatches_iff (s := v) stored).mpr ⟨addressed, ack, id⟩
    have early : (attempted a v).clock - (attempted a v).clock < ackBound (attempted a v) := by
      obtain ⟨-, -, -, -, cfg, -⟩ := leaves.session
      rw [sub_self]
      exact ackBound_pos (cfg ▸ positive)
    have returns : Reaches [.app o] (awaitingAck a 0 (attempted a v)) (attempted a v) .idle
        ((attempted a v).emit (.result (.bool true))) :=
      .sample_holds_early attempted_oracle le_rfl holds early fun rest a => settleApp_resume_nil _ rest a _
    exact (counts.trans (attempts.trans (waits.trans returns))).of_answered
  have leaves := leaves.answered (.bool true)
  have starts := leaves.txStarts
  have mode : (attempted a v).mode = .rxContinuous := attempted_mode
  rw [attemptLabels_txStarts] at starts
  generalize attempted a v = w at *
  exact ⟨_, answered (.bool true) w, exec_sendToWait_of_fits idle live short, run.run script,
    rfl, mode, leaves.lastHeaderId, leaves.lastReceivedPayload.trans stored, leaves.session, leaves.cadDetected,
    leaves.clock, leaves.flags, leaves.receiver, leaves.edges, starts, answered_obs_getLast? _ _⟩

/-! ## Attempt after attempt (R164) -/

section
variable {o : Oracle} {os : List Oracle} {labels : List Label} {a : SendToWaitArgs} {k : Nat} {r : Rat} {gap : Time}
  {s t : State}

theorem SendLeaves.attemptFrame (h : SendLeaves os labels s t) : attemptFrame a t = attemptFrame a s := by
  rw [Machine.attemptFrame, h.sendFrame, attemptArgs, h.lastHeaderId]
  rfl

/-- What an attempt without an acknowledgement needs: no matching record, and a time past any bound the draw gives. -/
structure StaysUnanswered (a : SendToWaitArgs) (gap : Time) (s : State) : Prop where
  can : CanAttempt a s
  unmatched : ackMatches s = false
  nonneg : 0 ≤ s.cfg.retryTimeout
  patient : 2 * s.cfg.retryTimeout ≤ gap

theorem StaysUnanswered.setClock (h : StaysUnanswered a gap s) (c : Time) : StaysUnanswered a gap (s.setClock c) :=
  ⟨⟨h.can.live, h.can.notTx, h.can.disabled, h.can.short⟩, h.unmatched, h.nonneg, h.patient⟩

/-- Nothing that sending leaves changes it, outside TX. -/
theorem StaysUnanswered.of_leaves (h : StaysUnanswered a gap s) (leaves : SendLeaves os labels s t)
    (notTx : t.mode ≠ .tx) : StaysUnanswered a gap t := by
  obtain ⟨⟨live, -, disabled, short⟩, unmatched, nonneg, patient⟩ := h
  obtain ⟨-, life, -, -, cfg, -⟩ := leaves.session
  exact ⟨⟨life.trans live, notTx, cfg ▸ disabled, cfg ▸ short⟩, leaves.ackMatches.trans unmatched, cfg ▸ nonneg,
    cfg ▸ patient⟩

/-- One attempt that no acknowledgement answers, from W2 to W2. -/
theorem reaches_unanswered (unicast : a.dest ≠ Config.addrBroadcast) (unanswered : StaysUnanswered a gap s)
    (more : k ≠ a.retries + 1) :
    ∃ t r', Reaches (attemptMoves gap o) (.busy [.sendToWait .w2 a k r]) s (.busy [.sendToWait .w2 a (k + 1) r']) t ∧
      t.mode = .rxContinuous ∧
      SendLeaves [o] (attemptLabels (attemptFrame a s) s.mode) (s.setClock (s.clock + gap)) t := by
  obtain ⟨⟨live, notTx, disabled, short⟩, unmatched, nonneg, patient⟩ := unanswered
  let v := s.setOracle o
  have can : CanAttempt a v := ⟨live, notTx, disabled, short⟩
  have leaves := attempted_leaves can
  have oracle : (attempted a v).oracle = o := attempted_oracle
  have mode : (attempted a v).mode = .rxContinuous := attempted_mode
  have attempts := reaches_attempted (r := r) (s := v) rfl can more
  generalize attempted a v = w at *
  have forward : 0 ≤ gap := (mul_nonneg zero_le_two nonneg).trans patient
  have waits := reaches_awaitingAck (k := k) (r := r) oracle unicast
  have waited := Reaches.elapse (a := awaitingAck a k w) (s := w) forward
  have samples : Reaches [.app o] (awaitingAck a k w) (w.setClock (w.clock + gap))
      (.busy [.sendToWait .w2e a k (drawOf w)]) (w.setClock (w.clock + gap)) := by
    obtain ⟨-, -, -, -, cfg, -⟩ := leaves.session
    have fails : ackMatches w = false := leaves.ackMatches.trans unmatched
    have bound : ackBound w ≤ gap := by
      have longest : 2 * w.cfg.retryTimeout ≤ gap := cfg ▸ patient
      exact (ackBound_le (cfg ▸ nonneg)).trans longest
    exact .sample_fails_late oracle (by simpa using forward) fails (by simpa using bound) fun _ _ => rfl
  have again : Reaches [.app o] (.busy [.sendToWait .w2e a k (drawOf w)]) (w.setClock (w.clock + gap))
      (.busy [.sendToWait .w2 a (k + 1) (drawOf w)]) (w.setClock (w.clock + gap)) :=
    .app_go (f := id) oracle (fun _ => rfl) fun _ => rfl
  refine ⟨w.setClock (w.clock + gap), drawOf w, ?_, mode, ?_⟩
  · exact Reaches.of_answered (attempts.trans (waits.trans (waited.trans (samples.trans again))))
  · have clocked := leaves.setClock (w.clock + gap)
    rw [leaves.clock] at clocked ⊢
    exact clocked.of_setOracle (s := s.setClock (s.clock + gap))

/-- Attempts with answers of their own, none acknowledged, by induction on the answers. -/
theorem reaches_allUnanswered (unicast : a.dest ≠ Config.addrBroadcast) (os : List Oracle) :
    ∀ {k r s}, StaysUnanswered a gap s → k + os.length = a.retries + 1 →
      ∃ t r' labels, Reaches (attemptsMoves gap os) (.busy [.sendToWait .w2 a k r]) s
          (.busy [.sendToWait .w2 a (a.retries + 1) r']) t ∧
        (s.mode = .rxContinuous ∨ os ≠ [] → t.mode = .rxContinuous) ∧
        SendLeaves os labels (s.setClock (s.clock + os.length * gap)) t ∧
        labels.filter isTxStart = List.replicate os.length (.txStart (attemptFrame a s)) := by
  induction os with
  | nil =>
    intro k r s unanswered counted
    have last : k = a.retries + 1 := counted
    have still : s.clock + ([] : List Oracle).length * gap = s.clock := by simp
    rw [last, still]
    exact ⟨s, r, [], .refl _ s, fun h => h.resolve_right (· rfl), .refl s, rfl⟩
  | cons o os ih =>
    intro k r s unanswered counted
    have more : k ≠ a.retries + 1 := by
      rw [List.length_cons] at counted
      omega
    obtain ⟨t, r', first, mode, leaves⟩ := reaches_unanswered (o := o) (r := r) unicast unanswered more
    have unanswered' : StaysUnanswered a gap t :=
      .of_leaves (unanswered.setClock _) leaves (by simp [mode])
    obtain ⟨u, r'', labels, others, mode', leaves', starts⟩ := ih (k := k + 1) (r := r') unanswered' (by
      rw [List.length_cons] at counted
      omega)
    have frame : attemptFrame a t = attemptFrame a s := leaves.attemptFrame
    have clock : t.clock + os.length * gap = s.clock + (o :: os).length * gap := by
      rw [leaves.clock, State.setClock_clock, List.length_cons]
      push_cast
      ring
    rw [clock] at leaves'
    refine ⟨u, r'', _, first.trans others, fun _ => mode' (.inl mode), (leaves.setClock _).trans leaves', ?_⟩
    rw [List.filter_append, attemptLabels_txStarts, starts, frame]
    rfl

/-- W2 after the last attempt, and W3: SENDTOWAIT returns false. -/
theorem reaches_exhausted :
    Reaches (appMoves 2 o) (.busy [.sendToWait .w2 a (a.retries + 1) r]) s .idle
      ((s.setOracle o).emit (.result (.bool false))) := by
  have exhausted : Reaches [.app o] (.busy [.sendToWait .w2 a (a.retries + 1) r]) (s.setOracle o)
      (.busy [.sendToWait .w3 a (a.retries + 1) r]) (s.setOracle o) :=
    .app_go (f := id) rfl (fun _ => if_pos rfl) fun _ => rfl
  have returns : Reaches [.app o] (.busy [.sendToWait .w3 a (a.retries + 1) r]) (s.setOracle o) .idle
      ((s.setOracle o).emit (.result (.bool false))) := .app rfl fun rest => settleApp_resume_nil _ rest _ _
  exact .of_answered (exhausted.trans returns)

end

/-- Settles O17: W1, the attempts, and W3. -/
theorem noAckExhaustsRetries : Obligations.NoAckExhaustsRetries := by
  intro s p d f os o gap idle live disabled notTx unicast short nonneg patient unmatched nonempty script
  let a : SendToWaitArgs := ⟨p, d, f, os.length - 1⟩
  let v := (s.setOracle o).setSeq (nextId s.lastHeaderId)
  have unanswered : StaysUnanswered a gap v := ⟨⟨live, notTx, disabled, short⟩, unmatched, nonneg, patient⟩
  have all : 0 + os.length = a.retries + 1 := by
    have := List.length_pos_of_ne_nil nonempty
    simp only [a]
    omega
  obtain ⟨w, r, labels, attempts, mode, leaves, txStarts⟩ := reaches_allUnanswered (r := 0) unicast os unanswered all
  have counts : Reaches [.app o] (.busy [.sendToWait .w1 a 0 0]) s (.busy [.sendToWait .w2 a 0 0]) v :=
    .of_answered (reaches_counted rfl)
  have run : Reaches (.app o :: attemptsMoves gap os ++ appMoves 2 o) (.busy [.sendToWait .w1 a 0 0]) s .idle
      ((w.setOracle o).emit (.result (.bool false))) := (counts.trans attempts).trans reaches_exhausted
  have leaves := (leaves.setOracle (o := o)).answered (.bool false)
  have starts := leaves.txStarts
  rw [txStarts] at starts
  refine ⟨_, answered (.bool false) (w.setOracle o), exec_sendToWait_of_fits idle live short,
    ?_, rfl, mode (.inr nonempty), leaves.lastHeaderId, leaves.session, leaves.lastReceivedPayload, leaves.cadDetected,
    leaves.clock, leaves.flags, leaves.receiver, leaves.edges, starts, answered_obs_getLast? _ _⟩
  rw [script]
  exact run.run script

end Sys2Proof.Machine
end

section
/-! PROOFS. A whole SENDACK with the interrupt that ends its wait (spec/42_send_retry_ack.md R170, R171; O26). -/

namespace Sys2Proof.Machine

section
variable {o : Oracle} {d i : Byte} {s : State}

/-- The acknowledgement's payload fits, with a codec and without one (R87, R92). -/
theorem ackPayload_fits (codec : Option Handle) : frameLen Config.ackPayload.length codec ≤ 255 := by
  cases codec with
  | none => decide
  | some c =>
    rw [← not_lt, frameLen_some_gt_iff]
    decide

/-- A1's first step: the check of S0 passes (R151). -/
theorem exec_sendAck (idle : s.app = .idle) (live : s.life = .live) :
    exec (.sendAck d i) s = .next (s.setApp (.busy [.send .s1 (ackArgs d i) [], .sendAck .a1 d i])) :=
  startApp_go idle live (sendS0_of_fits (tooLong_of_le (ackPayload_fits s.cfg.codec)))

/-- APP waits in A2 from the time of `s` on. -/
def awaitingSent (d i : Byte) (s : State) : AppCtl :=
  sampling .modeNotTx s.cfg.waitPacketSentTimeout s.clock s.clock [.sendAck .a2 d i]

/-- A1 and A2's first step: the acknowledgement is sent and APP waits for the end of its transmission (R170). -/
theorem reaches_awaitingSent (oracle : s.oracle = o) (live : s.life = .live) (notTx : s.mode ≠ .tx)
    (disabled : s.cfg.cadTimeout = 0) (w : State) (acked : w = sent (ackArgs d i) 0 .disabled s) :
    Reaches (appMoves 10 o) (.busy [.send .s1 (ackArgs d i) [], .sendAck .a1 d i]) s (awaitingSent d i w) w := by
  have returns (u : State) (rest : List Move) (a : AppCtl) :
      settleApp (resume (.bool true) [.sendAck .a1 d i] (placed rest a u)) =
        placed rest (.busy [.sendAck .a2 d i]) u := rfl
  have sends := reaches_send (a := ackArgs d i) (fr := []) (g := 0) (x := .disabled) oracle live
    (fun tx => absurd tx notTx) disabled (returns (sent (ackArgs d i) 0 .disabled s))
  rw [sendMoves_disabled notTx, ← acked] at sends
  have waits : Reaches [.app o] (.busy [.sendAck .a2 d i]) w (awaitingSent d i w) w :=
    .app_go (f := id) (acked ▸ sent_oracle.trans oracle) (fun _ => rfl) fun _ => rfl
  exact sends.trans waits

/-- `s` when RADIO has ended its transmission, resting in TX or not (R64, U18). -/
def txReported (stays : Bool) (s : State) : State :=
  { s with
    radio :=
      { s.radio with
        hwMode := if stays then .tx else .standby
        flags := { s.radio.flags with txDone := true } } }

/-- The end of the transmission, the handler that serves it, and A2's sample, which finds the mode IDLE (R171). -/
theorem reaches_ackDone (stays : Bool) (oracle : s.oracle = o) (live : s.life = .live) (noIsrs : s.isrs = [])
    (quiet : s.edgeLatched = false) (mode : s.mode = .tx) (hw : s.radio.hwMode = .tx)
    (line : s.radio.irqMap = some .txDone) (unset : s.radio.flags.txDone = false) :
    Reaches (.radio (.txDone stays) :: (isrMoves 4 0 o ++ appMoves 1 o)) (awaitingSent d i s) s .idle
      ((idledByHandler (txReported stays s)).emit (.result .unit)) := by
  have reported := Reaches.radio (e := .txDone stays) (a := awaitingSent d i s) (s := s)
  rw [radioStep_txDone_raises stays live noIsrs hw line unset] at reported
  have served := reaches_txDoneServed (a := awaitingSent d i s) (s := txReported stays s) oracle live quiet mode rfl
  have sampled : Reaches [.app o] (awaitingSent d i s) (idledByHandler (txReported stays s)) .idle
      ((idledByHandler (txReported stays s)).emit (.result .unit)) :=
    .sample_holds oracle le_rfl rfl fun _ rest a => settleApp_resume_nil _ rest a _
  exact reported.trans (served.trans sampled)

/-- What leaves the block in a SEND without channel sensing is its frame. -/
theorem sendLabels_outputs (frame : Bytes) (m : Mode) :
    (sendLabels frame .disabled m).filter isOutput = [.txStart frame] := by
  have idling : (idleLabels m).filter isOutput = [] := by
    unfold idleLabels
    split <;> rfl
  rw [sendLabels, List.filter_append, List.filter_append, idling]
  rfl

/-- `s` when a handler has served the end of its transmission and SENDACK has returned. -/
def ackDone (s : State) : State :=
  { s with
    app := .idle
    script := []
    mode := .idle
    radio := { s.radio with hwMode := .standby, flags := ⟨false, false, false, false⟩ }
    isrs := []
    obs := s.obs ++ [.radio .readIrqFlags, .radio (.writeMode .standby), .radio .clearIrqFlags, .result .unit] }

theorem answered_idledByHandler (stays : Bool) (s : State) :
    answered .unit (idledByHandler (txReported stays s)) = ackDone s := by
  have labels := List.append_assoc s.obs
    [.radio .readIrqFlags, .radio (.writeMode .standby), .radio .clearIrqFlags] [.result .unit]
  exact congrArg (fun l => { ackDone s with obs := l }) labels

/-- The handler that serves the end of a transmission gives nothing out, and neither does a result. -/
theorem ackDone_outputs (s : State) : (ackDone s).obs.filter isOutput = s.obs.filter isOutput := by
  rw [ackDone, List.filter_append]
  exact List.append_nil _

theorem ackDone_obs_getLast? (s : State) : (ackDone s).obs.getLast? = some (.result .unit) :=
  List.getLast?_append_of_ne_nil _ (by simp)

end

/-- Settles O26: SEND's frame goes out, RADIO reports its end, a handler sets IDLE, and A2's next sample sees it. -/
theorem sendAckEchoesTheId : Obligations.SendAckEchoesTheId := by
  intro s d i o stays idle live disabled notTx noIsrs quiet unset script
  let v := s.setOracle o
  obtain ⟨w, acked⟩ : ∃ w, w = sent (ackArgs d i) 0 .disabled v := ⟨_, rfl⟩
  have leaves := sent_disabled_leaves (a := ackArgs d i) (s := v) disabled (ackPayload_fits _)
  have edges : edgesKept v (sent (ackArgs d i) 0 .disabled v) := sent_disabled_edgesKept unset
  have oracle : (sent (ackArgs d i) 0 .disabled v).oracle = o := sent_oracle
  have mode : (sent (ackArgs d i) 0 .disabled v).mode = .tx := sent_mode
  have hw : (sent (ackArgs d i) 0 .disabled v).radio.hwMode = .tx := sent_hwMode
  have line : (sent (ackArgs d i) 0 .disabled v).radio.irqMap = some .txDone := sent_irqMap
  have sends := reaches_awaitingSent (d := d) (i := i) (s := v) rfl live notTx disabled w acked
  rw [← acked] at leaves edges oracle mode hw line
  obtain ⟨isrs, latched⟩ := edges
  obtain ⟨-, life, -⟩ := leaves.session
  have ends := reaches_ackDone (d := d) (i := i) stays oracle (life.trans live) (isrs.trans noIsrs)
    (latched.trans quiet) mode hw line (leaves.flags ▸ unset)
  have run := (Reaches.of_answered (sends.trans ends)).run script
  have run : runSteps 16 (s.setApp (.busy [.send .s1 (ackArgs d i) [], .sendAck .a1 d i])) = .next (ackDone w) :=
    run.trans (congrArg Host.Outcome.next (answered_idledByHandler stays w))
  have outputs : w.obs.filter isOutput = s.obs.filter isOutput ++ [Label.txStart (sendFrame (ackArgs d i) v)] := by
    rw [leaves.obs, List.filter_append, sendLabels_outputs]
    rfl
  exact ⟨_, ackDone w, exec_sendAck idle live, run, rfl, rfl, rfl, leaves.lastHeaderId, leaves.lastReceivedPayload,
    leaves.cadDetected, leaves.session, leaves.clock, latched.trans quiet, leaves.receiver, rfl, rfl,
    (ackDone_outputs w).trans outputs, ackDone_obs_getLast? w⟩

end Sys2Proof.Machine
end

section
/-! PROOFS. WAITCAD as APP's own operation (spec/43_cad.md R180 to R183): its entry (O27), one sample (O28), and a whole cycle that finds the channel clear (O29). -/

namespace Sys2Proof.Machine

/-! ## K0: the entry (R181) -/

section
variable {caller : Stack} {s : State}

theorem waitCadK0_of_disabled (disabled : s.cfg.cadTimeout = 0) :
    waitCadK0 caller s = resume (.cad .clear) caller s := if_pos disabled

theorem waitCadK0_of_enabled (enabled : s.cfg.cadTimeout ≠ 0) :
    waitCadK0 caller s = .go (.waitCad .k1 s.clock s.clock :: caller) s := if_neg enabled

theorem exec_waitCad_of_disabled (idle : s.app = .idle) (live : s.life = .live) (disabled : s.cfg.cadTimeout = 0) :
    exec .waitCad s = .next { s with obs := s.obs ++ [.result (.cad .clear)] } :=
  startApp_done idle live (waitCadK0_of_disabled disabled)

theorem exec_waitCad_of_enabled (idle : s.app = .idle) (live : s.life = .live) (enabled : s.cfg.cadTimeout ≠ 0) :
    exec .waitCad s = .next (s.setApp (.busy [.waitCad .k1 s.clock s.clock])) :=
  startApp_go idle live (waitCadK0_of_enabled enabled)

end

/-- Settles O27: the two branches of K0 on an idle APP. -/
theorem waitCadDisabledIsClear : Obligations.WaitCadDisabledIsClear := by
  intro s idle live
  exact ⟨exec_waitCad_of_disabled idle live, exec_waitCad_of_enabled idle live⟩

/-! ## K2: one sample (R182) -/

section
variable {caller : Stack} {t0 wake : Time} {s : State}

/-- Exit (a). -/
theorem waitCadK2_of_clear (clear : s.mode = .idle ∧ s.cadDetected = .clear) :
    waitCadK2 t0 wake caller s = resume (.cad .clear) caller s := if_pos clear

/-- Exit (c). -/
theorem waitCadK2_of_late (notClear : ¬ (s.mode = .idle ∧ s.cadDetected = .clear))
    (late : s.cfg.cadTimeout ≤ s.clock - t0) :
    waitCadK2 t0 wake caller s = resume (.cad .busy) caller (s.emit .channelBusy) :=
  (if_neg notClear).trans (if_pos late)

/-- Branch (b): another cycle. -/
theorem waitCadK2_of_detected (mode : s.mode = .idle) (detected : s.cadDetected = .detected)
    (early : s.clock - t0 < s.cfg.cadTimeout) :
    waitCadK2 t0 wake caller s = .go (.waitCad .k1 t0 wake :: caller) s := by
  have notClear : ¬ (s.mode = .idle ∧ s.cadDetected = .clear) := by simp [detected]
  exact (if_neg notClear).trans ((if_neg (not_le.mpr early)).trans (if_pos ⟨mode, detected⟩))

/-- No verdict to act on: the pause. -/
theorem waitCadK2_of_undecided (undecided : s.mode ≠ .idle ∨ s.cadDetected = .unknown)
    (early : s.clock - t0 < s.cfg.cadTimeout) :
    waitCadK2 t0 wake caller s = .go (.waitCad .k3 t0 wake :: caller) s := by
  have noVerdict (c : CadFlag) (known : c ≠ .unknown) : ¬ (s.mode = .idle ∧ s.cadDetected = c) := by
    rintro ⟨mode, rfl⟩
    exact undecided.elim (· mode) known
  exact (if_neg (noVerdict .clear nofun)).trans
    ((if_neg (not_le.mpr early)).trans (if_neg (noVerdict .detected nofun)))

/-- A sample by APP, awake, is K2's. -/
theorem appStep_waitCad_awake (busy : s.app = .busy [.waitCad .k2 t0 wake]) (awake : wake ≤ s.clock) :
    appStep s = settleApp (waitCadK2 t0 wake [] s) :=
  (appStep_busy busy).trans (congrArg settleApp (if_neg (not_lt.mpr awake)))

end

/-- Settles O28: the four branches of K2 in the order of R182. -/
theorem waitCadTestsInOrder : Obligations.WaitCadTestsInOrder := by
  intro s t0 wake busy awake
  rw [appStep_waitCad_awake busy awake]
  refine ⟨fun mode clear => ?exitA, fun notClear late => ?exitC, fun mode detected early => ?branchB,
    fun undecided early => ?pause⟩
  case exitA =>
    rw [waitCadK2_of_clear ⟨mode, clear⟩]
    rfl
  case exitC =>
    rw [waitCadK2_of_late notClear late, resume_nil, settleApp_done]
    simp [State.emit, State.setApp]
  case branchB =>
    rw [waitCadK2_of_detected mode detected early]
    rfl
  case pause =>
    rw [waitCadK2_of_undecided undecided early]
    rfl

/-! ## A whole cycle (R182, R224) -/

section
variable {o : Oracle} {d t0 wake : Time} {s : State}

/-- From K1 to WAITCAD's result: SETCAD, the cycle that a handler serves, and the sample that finds it clear. -/
theorem reaches_waitCadClear (stays : Bool) (oracle : s.oracle = o) (live : s.life = .live) (notCad : s.mode ≠ .cad)
    (noIsrs : s.isrs = []) (quiet : s.edgeLatched = false) (unset : s.radio.flags = ⟨false, false, false, false⟩)
    (forward : 0 ≤ d) (settled : s.par.cadSettleTime ≤ d) :
    Reaches
      (appMoves 2 o ++ .elapse d :: .app o :: .radio (.cadDone false stays) :: (isrMoves 5 0 o ++ appMoves 1 o))
      (.busy [.waitCad .k1 t0 wake]) s .idle ((cadCleared d s).emit (.result (.cad .clear))) := by
  have cycle := reaches_cadCleared (caller := []) (t0 := t0) (wake := wake) stays oracle live notCad noIsrs quiet
    unset forward settled
  have sampled : Reaches (appMoves 1 o) (.busy [.waitCad .k2 t0 (s.clock + d)]) (cadCleared d s) .idle
      ((cadCleared d s).emit (.result (.cad .clear))) :=
    .cad_clear oracle le_rfl rfl rfl fun rest a => settleApp_resume_nil _ rest a _
  exact cycle.trans sampled

theorem idleLabels_txStarts (m : Mode) : (idleLabels m).filter isTxStart = [] := by
  unfold idleLabels
  split <;> rfl

/-- No frame goes out in a CAD cycle. -/
theorem cadCleared_txStarts : (cadCleared d s).obs.filter isTxStart = s.obs.filter isTxStart := by
  have cycle : cadCycleLabels.filter isTxStart = [] := rfl
  rw [cadCleared, (setIdle_leaves s).obs, List.filter_append, List.filter_append, idleLabels_txStarts, cycle,
    List.append_nil, List.append_nil]

theorem answered_txStarts (v : Value) (s : State) :
    (answered v s).obs.filter isTxStart = s.obs.filter isTxStart :=
  (List.filter_append ..).trans (List.append_nil _)

end

/-- Settles O29: K0 goes on to K1, and the cycle's state is the one before but for the mode, the verdict, the
clock and the radio's mode and mapping. -/
theorem waitCadClearCycle : Obligations.WaitCadClearCycle := by
  intro s o d stays idle live enabled notCad noIsrs quiet unset settled forward script
  let v := s.setOracle o
  let u := answered (.cad .clear) (cadCleared d v)
  have cycle := reaches_waitCadClear (t0 := s.clock) (wake := s.clock) (s := v) stays rfl live notCad noIsrs quiet
    unset forward settled
  have run : runSteps 11 (s.setApp (.busy [.waitCad .k1 s.clock s.clock])) = .next u :=
    (Reaches.of_answered cycle).run script
  have session : sameSession s u := ⟨rfl, rfl, rfl, rfl, rfl, rfl⟩
  have receiver : receiverKept s u := ⟨rfl, rfl, rfl, fun _ => rfl⟩
  have txStarts : u.obs.filter isTxStart = s.obs.filter isTxStart :=
    (answered_txStarts _ _).trans (cadCleared_txStarts (s := v))
  exact ⟨_, u, exec_waitCad_of_enabled idle live enabled, run, rfl, rfl, rfl, rfl, rfl, rfl, rfl, rfl, session, rfl,
    quiet, rfl, rfl, rfl, rfl, rfl, receiver, txStarts, answered_obs_getLast? _ _⟩

end Sys2Proof.Machine
end

section
/-! PROOFS. The encryption framing of spec/44_crypto_framing.md: the padding (O37), the round trip over any codec (O38) and over the model's (O39), the two commands (O36). -/

namespace Sys2Proof.Machine

section
variable {s : State} {c : Handle} {payload block : Bytes}

/-! ## The padding and the plaintext block -/

/-- The padding of R191 with the block size written out. -/
theorem padLen_eq (len : Nat) : padLen len = (16 - (1 + len) % 16) % 16 := rfl

/-- The padding fills the last block (R192). -/
theorem padLen_add_mod (len : Nat) : (1 + len + padLen len) % 16 = 0 := by
  rw [padLen_eq]
  omega

theorem padLen_le_fifteen (len : Nat) : padLen len ≤ 15 := Nat.le_of_lt_succ (Nat.mod_lt _ (by decide))

/-- No shorter padding fills it (R192). -/
theorem padLen_le_of_mod {len q : Nat} (fills : (1 + len + q) % 16 = 0) : padLen len ≤ q := by
  rw [padLen_eq]
  omega

theorem wrapBlock_length (payload : Bytes) :
    (wrapBlock payload).length = 1 + payload.length + padLen payload.length := by
  simp only [wrapBlock, wrapBlockWith, zeros, List.cons_append, List.length_cons, List.length_append,
    List.length_replicate]
  omega

/-- A length up to 255 fits its byte (R192). -/
theorem byte_toNat_of_le {len : Nat} (short : len ≤ 255) : (BitVec.ofNat 8 len).toNat = len :=
  (BitVec.toNat_ofNat len 8).trans (Nat.mod_eq_of_lt (Nat.lt_succ_of_le short))

/-! ## The round trip -/

/-- The slice of R193 cuts the length byte and the padding off again. -/
theorem unwrapBlock_wrapBlock (short : payload.length ≤ 255) : unwrapBlock (wrapBlock payload) = payload := by
  have slice : unwrapBlock (wrapBlock payload) =
      (payload ++ zeros (padLen payload.length)).take (BitVec.ofNat 8 payload.length).toNat := rfl
  rw [slice, byte_toNat_of_le short, List.take_left]

/-- R194 asks (INV) of the one block that ENC.WRAP builds. -/
theorem unwrapWith_wrapWith {enc dec : Bytes → Bytes} (inverse : dec (enc (wrapBlock payload)) = wrapBlock payload)
    (short : payload.length ≤ 255) : unwrapWith dec (wrapWith enc payload) = payload := by
  rw [unwrapWith, wrapWith, inverse, unwrapBlock_wrapBlock short]

/-! ## The model's codecs -/

/-- `decrypt` on the bytes of a block of any known length: the permutation it inverts is that length's. -/
theorem decrypt_toList {n : Nat} (c : Handle) (v : Vector Byte n) :
    decrypt c v.toList = ((Config.codecPerm c n).symm v).toList := by
  obtain ⟨⟨bytes⟩, rfl⟩ := v
  rfl

/-- (INV) of R190, on every length. -/
theorem decrypt_encrypt (c : Handle) (bs : Bytes) : decrypt c (encrypt c bs) = bs := by
  rw [encrypt, decrypt_toList, Equiv.symm_apply_apply]
  rfl

/-! ## The two commands -/

theorem codecGate_of_none (idle : s.app = .idle) (live : s.life = .live) (absent : s.cfg.codec = none) :
    codecGate s = some .codecAbsent := by
  rw [codecGate, gate_of_ready idle live, absent]

theorem codecGate_of_some (idle : s.app = .idle) (live : s.life = .live) (codec : s.cfg.codec = some c) :
    codecGate s = none :=
  codecGate_eq_none.mpr ⟨⟨idle, live⟩, codec ▸ rfl⟩

/-- With a codec ENC.WRAP answers the encrypted block (R191). -/
theorem exec_encWrap (idle : s.app = .idle) (live : s.life = .live) (codec : s.cfg.codec = some c) :
    exec (.encWrap payload) s =
      .next (answer (.bytes (encrypt c (wrapBlockWith (lengthByte payload.length s) payload))) s) := by
  have run : exec (.encWrap payload) s = guarded (codecGate s) (answer (.bytes (wrapped payload s)) s) := rfl
  rw [run, codecGate_of_some idle live codec, guarded_none, wrapped, codec]

/-- With a codec ENC.UNWRAP answers the slice of the decrypted block (R193). -/
theorem exec_encUnwrap (idle : s.app = .idle) (live : s.life = .live) (codec : s.cfg.codec = some c) :
    exec (.encUnwrap block) s = .next (answer (.bytes (unwrapBlock (decryption c block s))) s) := by
  have run : exec (.encUnwrap block) s = guarded (codecGate s) (answer (.bytes (unwrapped block s)) s) := rfl
  rw [run, codecGate_of_some idle live codec, guarded_none, unwrapped, codec]

theorem lengthByte_of_le {len : Nat} (short : len ≤ 255) : lengthByte len s = BitVec.ofNat 8 len := if_pos short

theorem lengthByte_of_gt {len : Nat} (long : 255 < len) : lengthByte len s = freeByte s := if_neg (not_le.mpr long)

theorem isBlock_iff : isBlock block = true ↔ block.length ≠ 0 ∧ block.length % 16 = 0 := by
  simp [isBlock, Config.encBlock]

theorem decryption_of_block (fills : block.length ≠ 0 ∧ block.length % 16 = 0) :
    decryption c block s = decrypt c block := if_pos (isBlock_iff.mpr fills)

theorem decryption_of_not_block (ragged : ¬ (block.length ≠ 0 ∧ block.length % 16 = 0)) :
    decryption c block s = s.oracle.scratch := if_neg (mt isBlock_iff.mp ragged)

/-- The free byte is the oracle's first scratch byte, so every byte occurs (log 36). -/
theorem freeByte_setOracle (l : Byte) (rest : Bytes) (s : State) :
    freeByte { s with oracle := { s.oracle with scratch := l :: rest } } = l := rfl

end

/-! ## The obligations -/

/-- Settles O38: ENC.WRAP's block has a positive length divisible by 16, so the pair is inverse on it. -/
theorem encryptionRoundTrip : Obligations.EncryptionRoundTrip := by
  intro enc dec codec payload short
  have nonempty : (wrapBlock payload).length ≠ 0 := List.cons_ne_nil _ _ ∘ List.length_eq_zero_iff.mp
  have fills : (wrapBlock payload).length % 16 = 0 := by rw [wrapBlock_length, padLen_add_mod]
  obtain ⟨inverse, -⟩ := codec (wrapBlock payload) nonempty fills
  exact unwrapWith_wrapWith inverse short

/-- Settles O39: a permutation of each length keeps lengths, and its inverse undoes it. -/
theorem codecHasItsThreeProperties : Obligations.CodecHasItsThreeProperties :=
  ⟨fun c b => ⟨encrypt_length c b, decrypt_length c b, decrypt_encrypt c b⟩,
    fun c payload short => unwrapWith_wrapWith (decrypt_encrypt c (wrapBlock payload)) short⟩

/-- Settles O37: the padding's arithmetic, and the length byte below 256. -/
theorem paddingIsLeast : Obligations.PaddingIsLeast := by
  intro payload
  refine ⟨padLen_add_mod _, padLen_le_fifteen _, fun _ => padLen_le_of_mod, wrapBlock_length payload, fun short => ?_⟩
  exact congrArg some (byte_toNat_of_le short)

/-- Settles O36: the refusals without a codec, and each command's answer by the length of its operand. -/
theorem encryptionFraming : Obligations.EncryptionFraming := by
  intro s idle live
  refine ⟨fun _ absent => ?wrapRefused, fun _ absent => ?unwrapRefused, fun c payload codec short => ?wrapShort,
    fun c payload codec long => ?wrapLong, fun c block l rest codec nonempty fills decrypted => ?unwrapBlock,
    fun c block codec ragged => ?unwrapRagged, fun l => ⟨_, freeByte_setOracle l [] s⟩, fun _ _ => rfl, rfl⟩
  case wrapRefused => exact exec_refused (.inr (.inr rfl)) (codecGate_of_none idle live absent)
  case unwrapRefused => exact exec_refused (.inr (.inr rfl)) (codecGate_of_none idle live absent)
  case wrapShort =>
    rw [exec_encWrap idle live codec, lengthByte_of_le short]
    rfl
  case wrapLong =>
    rw [exec_encWrap idle live codec, lengthByte_of_gt long]
    rfl
  case unwrapBlock =>
    rw [exec_encUnwrap idle live codec, decryption_of_block ⟨nonempty, fills⟩, decrypted]
    rfl
  case unwrapRagged =>
    rw [exec_encUnwrap idle live codec, decryption_of_not_block ragged]
    rfl

end Sys2Proof.Machine
end

section
/-! PROOFS. The host surface of spec/45_host_surface.md: INIT (O9) and its failure (O10), ONRECEIVE (O11), CLOSE and what a closed instance answers (O12). -/

namespace Sys2Proof.Machine

/-! ## Y1: INIT's first step (R200, R201) -/

section
variable {s : State} {a : InitArgs} {caller : Stack}

theorem initY1_of_ok (ok : s.hwInitOk = true) :
    initY1 a caller s = .go (.init .y2 a :: caller) (s.setLife .constructing) := if_pos ok

theorem initY1_of_failed (failed : s.hwInitOk = false) :
    initY1 a caller s = resume (.raised .hardwareInitError) caller (s.setLife .failed) :=
  if_neg (ne_true_of_eq_false failed)

theorem exec_init (idle : s.app = .idle) (absent : s.life = .absent) :
    exec (.init a) s = .next (settleApp (initY1 a [] s)) := by
  change guarded (initGate s) (settleApp (initY1 a [] s)) = _
  rw [initGate_eq_none.mpr ⟨idle, absent⟩, guarded_none]

end

/-! ## The steps after the first: Y2 and Y3 of INIT, X2 of CLOSE -/

section
variable {o o₁ o₂ : Oracle}

/-- Y2 and Y3: the fields are written, then the instance is live. -/
theorem Reaches.initY2Y3 (a : InitArgs) (s : State) :
    Reaches [.app o₁, .app o₂] (.busy [.init .y2 a]) s
      .idle ((((initFields a (s.setOracle o₁)).setOracle o₂).setLife .live).emit (.result .unit)) := by
  have y2 : Reaches [.app o₁] (.busy [.init .y2 a]) (s.setOracle o₁)
      (.busy [.init .y3 a]) (initFields a (s.setOracle o₁)) :=
    .app_go rfl (fun _ => rfl) (fun _ => rfl)
  have y3 (u : State) : Reaches [.app o₂] (.busy [.init .y3 a]) (u.setOracle o₂)
      .idle (((u.setOracle o₂).setLife .live).emit (.result .unit)) :=
    .app rfl fun _ => rfl
  exact y2.of_answered.trans (y3 _).of_answered

/-- X2: the instance is closed. -/
theorem Reaches.closeX2 (s : State) :
    Reaches [.app o] (.busy [.close .x2]) s .idle (((s.setOracle o).setLife .closed).emit (.result .unit)) :=
  .of_answered (.app rfl fun _ => rfl)

end

/-! ## X1: CLOSE's first step (R205) -/

/-- SLEEP in both its cases: the mode SLEEP, and one write unless it was SLEEP already (R133). -/
theorem sleepMode_eq (s : State) :
    sleepMode s =
      { s with
        mode := .sleep
        radio := if s.mode = .sleep then s.radio else { s.radio with hwMode := .sleep }
        obs := s.obs ++ if s.mode = .sleep then [] else [.radio (.writeMode .sleep)] } := by
  by_cases asleep : s.mode = .sleep
  · rw [sleepMode_of_sleep asleep, if_pos asleep, if_pos asleep, List.append_nil, ← asleep]
  · rw [sleepMode_of_ne_sleep asleep, if_neg asleep, if_neg asleep]

theorem closeGate_of_liveHandler {s : State} (idle : s.app = .idle) (live : s.life = .live) (running : s.isrs ≠ []) :
    closeGate s = some .closeWithLiveHandler := by
  rw [closeGate, gate_of_ready idle live]
  exact if_neg (mt List.isEmpty_iff.mp running)

theorem exec_close {s : State} (idle : s.app = .idle) (live : s.life = .live) (noIsrs : s.isrs = []) :
    exec .close s = .next ((sleepMode s).setApp (.busy [.close .x2])) := by
  change guarded (closeGate s) (settleApp (stepStack [.close .x1] s)) = _
  rw [closeGate_eq_none.mpr ⟨idle, live, noIsrs⟩, guarded_none, stepStack_closeX1, settleApp_go]

/-! ## What an instance that is not live answers -/

theorem exec_irq_of_not_live {s : State} (notLive : s.life ≠ .live) : exec .irq s = .next s :=
  congrArg Host.Outcome.next (takeEdge_of_not_live notLive)

section
variable {i : Instr} {s : State} (command : i.format = .hostCmd ∨ i.format = .intCmd ∨ i.format = .func)
  (idle : s.app = .idle)
include command idle

theorem exec_refused_of_closed (closed : s.life = .closed) : exec i s = .refused .afterClose := by
  obtain ⟨-, afterClose, -⟩ := commandsRefusedOutOfTurn i s command
  exact afterClose idle closed

theorem exec_refused_of_failed (failed : s.life = .failed) : exec i s = .refused .afterFailedInit := by
  obtain ⟨-, -, afterFailed, -⟩ := commandsRefusedOutOfTurn i s command
  exact afterFailed idle failed

end

/-! ## The obligations -/

/-- Settles O9: Y1 makes APP busy, and the run of Y2 and Y3 ends with the fields of Y2 on a live instance. -/
theorem initConstructsTheInstance : Obligations.InitConstructsTheInstance := by
  intro s a o₁ o₂ idle absent ok script
  refine ⟨(s.setLife .constructing).setApp (.busy [.init .y2 a]), ?y1, ?y2y3⟩
  case y1 => rw [exec_init idle absent, initY1_of_ok ok, settleApp_go]
  case y2y3 =>
    have run := (Reaches.initY2Y3 a (s.setLife .constructing)).run script
    exact run.trans (congrArg _ (placed_of_app_eq idle))

/-- Settles O12: X1 is SLEEP, X2 closes the instance, and in what they leave neither edge nor command is taken. -/
theorem closeSleepsAndReleases : Obligations.CloseSleepsAndReleases := by
  intro s o idle live
  refine ⟨fun running => ?refused, fun noIsrs script => ?closes⟩
  case refused => exact exec_refused (.inl rfl) (closeGate_of_liveHandler idle live running)
  case closes =>
    have asleepIdle : (sleepMode s).app = .idle := (sleepMode_app s).trans idle
    have run := (Reaches.closeX2 (sleepMode s)).run ((sleepMode_script s).trans script)
    refine ⟨_, _, exec_close idle live noIsrs, run.trans (congrArg _ (placed_of_app_eq asleepIdle)), ?state,
      exec_irq_of_not_live nofun, fun i command => exec_refused_of_closed command asleepIdle rfl⟩
    rw [sleepMode_eq]
    rfl

/-- Settles O10: Y1 ends INIT with the error, and a failed life refuses every command. -/
theorem failedInitLeavesNoInstance : Obligations.FailedInitLeavesNoInstance := by
  intro s a idle absent failed
  refine ⟨_, ?y1, rfl, fun i command => exec_refused_of_failed command idle rfl⟩
  rw [exec_init idle absent, initY1_of_failed failed, resume_nil, settleApp_done,
    setApp_self (s := s.setLife .failed) idle]
  rfl

/-- Settles O11: the gate is open, and the answer is given on the state with the callback. -/
theorem onReceiveRegistersTheCallback : Obligations.OnReceiveRegistersTheCallback := by
  intro s h idle live
  exact guarded_answer idle live .unit (s.setCallback h)

end Sys2Proof.Machine
end

section
/-! PROOFS. Who may use the host's port (O7), the signal metrics (O41), the taking of an edge and the return that serves a latched one (O43): spec/60_exceptions.md R222, R226, R233, R240. -/

namespace Sys2Proof.Machine

/-! ## The host's port (R240) -/

theorem channel_eq_host_iff {f : Format} : f.channel = .host ↔ f = .hostCmd := by
  cases f <;> decide

theorem step_refuse {s : State} {ch : Channel} {o : Oracle} {bytes : Bytes} {rest : List Move} {r : Refusal}
    (h : s.script = .present ch o bytes :: rest) (hf : fetch ch bytes = .refuse r) : step s = .refused r := by
  simp [step, h, hf]

theorem fetch_host_of_other {bytes : Bytes} {i : Instr} (decoded : decodeRecord bytes = .ok i)
    (other : i.format ≠ .hostCmd) : fetch .host bytes = .refuse (.accessLevel .host) := by
  simp [fetch, decode, decoded, channel_eq_host_iff, other]

/-- Settles O7: the channel of such an operation is not the host's, and from the callback nothing is decoded. -/
theorem hostPortTakesHostCommandsOnly : Obligations.HostPortTakesHostCommandsOnly := by
  intro s o bytes rest
  exact ⟨fun i script decoded other => step_refuse script (fetch_host_of_other decoded other),
    fun script => step_refuse script rfl⟩

/-! ## SIG.METRICS (R226) -/

/-- Between the two bands the signal strength differs by the offsets alone (T9). -/
theorem sigMetrics_bands {s t : State} (snrRaw rssiRaw : Byte) (par : s.par = t.par) (low : s.cfg.frequencyMHz < 779)
    (high : 779 ≤ t.cfg.frequencyMHz) :
    (sigMetrics s snrRaw rssiRaw).2 - (sigMetrics t snrRaw rssiRaw).2 =
      s.par.rssiOffsetLow - s.par.rssiOffsetHigh := by
  obtain ⟨below, -, -⟩ := bandSplitsAt779 s.par s.cfg.frequencyMHz
  obtain ⟨-, above, -⟩ := bandSplitsAt779 t.par t.cfg.frequencyMHz
  simp only [sigMetrics, below low, above high]
  rw [← par, add_sub_add_left_eq_sub]

/-- The two offsets are a unit apart (D20). -/
theorem rssiOffsetLow_ne_rssiOffsetHigh : Config.rssiOffsetLow ≠ Config.rssiOffsetHigh :=
  fun same => Config.rssiOffsetGap.ne_zero (left_eq_add.mp same)

/-- Settles O41: the answer is SIG.METRICS' value, its definition written out. -/
theorem signalMetrics : Obligations.SignalMetrics := by
  refine ⟨fun s snrRaw rssiRaw idle live => guarded_answer idle live _ s, ?bands, rssiOffsetLow_ne_rssiOffsetHigh⟩
  case bands =>
    intro s t snrRaw rssiRaw par low high
    exact ⟨sigMetrics_bands snrRaw rssiRaw par low high, by simp only [sigMetrics, par]⟩

/-! ## The edge (R222, R233) -/

section
variable {s : State}

theorem takeEdge_starts (live : s.life = .live) (free : s.par.isrReentrant = true ∨ s.isrs = []) :
    takeEdge s = s.setIsrs (s.isrs ++ [newInvocation]) := by
  rw [takeEdge_of_live live, if_pos (by simpa using free)]

theorem takeEdge_latches (live : s.life = .live) (notReentrant : s.par.isrReentrant = false) (running : s.isrs ≠ []) :
    takeEdge s = s.setLatched true := by
  rw [takeEdge_of_live live, if_neg (by simp [notReentrant, running])]

theorem returnFromIrq_serves_latched (notReentrant : s.par.isrReentrant = false) (latched : s.edgeLatched = true)
    (k : Nat) : returnFromIrq k s = (s.setLatched false).setIsrs (s.isrs.eraseIdx k ++ [newInvocation]) := by
  simp only [returnFromIrq, State.setIsrs_par, State.setIsrs_edgeLatched, notReentrant, latched]
  rfl

end

/-- Settles O43: the three branches of the edge, and the return with the latch set. -/
theorem edgeStartsOrLatches : Obligations.EdgeStartsOrLatches := by
  intro s
  refine ⟨exec_irq_of_not_live, fun live free => ?starts, fun live notReentrant running => ?latches,
    fun notReentrant latched st only => ?serves⟩
  case starts => exact ⟨_, congrArg Host.Outcome.next (takeEdge_starts live free)⟩
  case latches => exact congrArg Host.Outcome.next (takeEdge_latches live notReentrant running)
  case serves =>
    rw [returnFromIrq_serves_latched notReentrant latched, only]
    exact ⟨_, rfl⟩

end Sys2Proof.Machine
end

section
/-! PROOFS. A handler invocation that runs alone after an edge (spec/60_exceptions.md R215 to R219, R223 to R225): transmission done (O44), CAD done (O45), a stale flag (O46), a malformed (O47) and a foreign packet (O48). -/

namespace Sys2Proof.Machine

/-! ## From the edge to the end of the moves -/

section
variable {k n : Nat} {o : Oracle} {ms rest : List Move} {a b : AppCtl} {l : IrqLabel} {x : IrqLocals} {s t : State}

theorem exec_irq_of_noIsrs (live : s.life = .live) (noIsrs : s.isrs = []) :
    exec .irq s = .next (s.setIsrs [newInvocation]) :=
  congrArg Host.Outcome.next (takeEdge_of_noIsrs live noIsrs)

/-- A run sees of its start only what the first step does with it. -/
theorem runSteps_congr_step (h : step s = step t) : runSteps (n + 1) s = runSteps (n + 1) t := by
  simp only [runSteps, Host.Core.run, Sys2Proof.core, h]

/-- The first move of an invocation brings the oracle's answers. -/
theorem Reaches.of_isr_answered (h : Reaches (.isr k o :: ms) a (s.setOracle o) b t) :
    Reaches (.isr k o :: ms) a s b t := fun n rest =>
  (runSteps_congr_step (s := placed (.isr k o :: ms ++ rest) a s) rfl).trans (h n rest)

/-- The invocation that an edge has started takes the first moves of the script, APP standing by. -/
theorem runSteps_invocation (script : s.script = .isr k o :: ms ++ rest)
    (reached : Reaches (.isr k o :: ms) s.app ((s.setOracle o).setIsrs [newInvocation]) s.app t) :
    runSteps (ms.length + 1) (s.setIsrs [newInvocation]) = .next (placed rest s.app t) := by
  have start : placed (.isr k o :: ms ++ rest) s.app (s.setIsrs [newInvocation]) = s.setIsrs [newInvocation] := by
    rw [← script]
    rfl
  have ends := reached.of_isr_answered (s := s.setIsrs [newInvocation]) 0 rest
  rwa [start, Nat.zero_add] at ends

/-! ## The branches of H2 that read no packet (R216, R223, R224) -/

theorem irqBranch_stale (notRx : ¬ (s.mode = .rxContinuous ∧ s.radio.flags.rxDone = true))
    (notTx : ¬ (s.mode = .tx ∧ s.radio.flags.txDone = true))
    (notCad : ¬ (s.mode = .cad ∧ s.radio.flags.cadDone = true)) : irqBranch s.mode s.radio.flags = .h5 := by
  rw [irqBranch, if_neg notRx, if_neg notTx, if_neg notCad]

theorem irqBranch_rxDone (mode : s.mode = .rxContinuous) (flag : s.radio.flags.rxDone = true) :
    irqBranch s.mode s.radio.flags = .h2a := if_pos ⟨mode, flag⟩

/-- A flag that is not the mode's: H1, H2, H5 (R216, R236). -/
theorem reaches_staleCleared (oracle : s.oracle = o) (live : s.life = .live) (quiet : s.edgeLatched = false)
    (stale : irqBranch s.mode s.radio.flags = .h5) :
    Reaches (isrMoves 3 0 o) a (s.setIsrs [newInvocation]) a
      ((radioClearIrqFlags (s.emit (.radio .readIrqFlags))).setIsrs []) := by
  have sampled := reaches_branch (a := a) oracle live
  rw [stale] at sampled
  exact sampled.trans (.isr_h5 (s := s.emit (.radio .readIrqFlags)) oracle live quiet)

/-- A CAD-done interrupt up to H4a: the verdict is written and the mode is not yet (R224). -/
theorem reaches_verdict (oracle : s.oracle = o) (live : s.life = .live) (mode : s.mode = .cad)
    (flag : s.radio.flags.cadDone = true) :
    Reaches (isrMoves 3 0 o) a (s.setIsrs [newInvocation]) a
      (((s.setCad (cadVerdict s.radio.flags)).emit (.radio .readIrqFlags)).setIsrs [[.irq .h4b (branchLocals s)]]) := by
  have branch : irqBranch s.mode s.radio.flags = .h4a := by simp [irqBranch, mode, flag]
  have sampled := reaches_branch (a := a) oracle live
  rw [branch] at sampled
  exact sampled.trans (.isr_go (s := s.emit (.radio .readIrqFlags)) oracle live fun _ => rfl)

/-! ## The packet read (R217) -/

/-- `s` after H1 to H2c in mode RX_CONTINUOUS: the packet read, the flags cleared, the status bytes read. -/
def packetTaken (s : State) : State :=
  { s with
    radio :=
      { s.radio with
        flags := ⟨false, false, false, false⟩
        fifoPtr := .received s.radio.rxPkt.length }
    obs := s.obs ++ [.radio .readIrqFlags, .radio .readRxLength, .radio .seekRxStart,
      .radio (.fifoRead s.radio.rxPkt.length), .radio .clearIrqFlags, .radio .readSnrRaw, .radio .readRssiRaw] }

/-- The length register holds the length of a packet that was received (R62, R80). -/
theorem rxLength_toNat (short : s.radio.rxPkt.length ≤ 255) :
    (BitVec.ofNat 8 s.radio.rxPkt.length).toNat = s.radio.rxPkt.length := by
  rw [BitVec.toNat_ofNat]
  omega

/-- From its start the whole packet is read (R54, R62). -/
theorem readPacket_fst (short : s.radio.rxPkt.length ≤ 255) : (readPacket s).1 = s.radio.rxPkt := by
  have read : (readPacket s).1 =
      s.radio.rxPkt.take (BitVec.ofNat 8 s.radio.rxPkt.length).toNat ++
        fit ((BitVec.ofNat 8 s.radio.rxPkt.length).toNat -
          (s.radio.rxPkt.take (BitVec.ofNat 8 s.radio.rxPkt.length).toNat).length) s.oracle.scratch := rfl
  rw [read, rxLength_toNat short, List.take_length, Nat.sub_self]
  exact List.append_nil _

theorem packetTaken_eq (short : s.radio.rxPkt.length ≤ 255) :
    (readMetrics (radioClearIrqFlags (readPacket (s.emit (.radio .readIrqFlags))).2)).2 = packetTaken s := by
  rw [readPacket_snd]
  simp [readMetrics, radioReadSnrRaw, radioReadRssiRaw, radioClearIrqFlags, packetTaken, State.emit, State.setRadio,
    rxLength_toNat short, FlagSet.empty]

/-- H2a: the packet is read into the invocation's buffer. -/
theorem Reaches.isr_read (oracle : s.oracle = o) (live : s.life = .live) (short : s.radio.rxPkt.length ≤ 255) :
    Reaches [.isr 0 o] a (s.setIsrs [[.irq .h2a x]]) a
      ((readPacket s).2.setIsrs [[.irq .h2b { x with buf := s.radio.rxPkt }]]) := by
  refine .isr_go oracle live fun rest => ?_
  rw [stepIrq, readPacket_fst (s := placed rest a (s.setIsrs [[.irq .h2a x]])) short]
  rfl

/-- H2b: the flags are cleared. -/
theorem Reaches.isr_cleared (oracle : s.oracle = o) (live : s.life = .live) :
    Reaches [.isr 0 o] a (s.setIsrs [[.irq .h2b x]]) a ((radioClearIrqFlags s).setIsrs [[.irq .h2c x]]) :=
  .isr_go oracle live fun _ => rfl

/-- The locals after H2c (R226). -/
def withMetrics (x : IrqLocals) (s : State) : IrqLocals :=
  { x with
    snr := (sigMetrics s s.radio.snrRaw s.radio.rssiRaw).1
    rssi := (sigMetrics s s.radio.snrRaw s.radio.rssiRaw).2 }

/-- Metrics depend on the parameters, the configuration and the two status bytes (R226). -/
theorem withMetrics_congr (par : t.par = s.par) (cfg : t.cfg = s.cfg) (snrRaw : t.radio.snrRaw = s.radio.snrRaw)
    (rssiRaw : t.radio.rssiRaw = s.radio.rssiRaw) : withMetrics x t = withMetrics x s := by
  simp only [withMetrics, sigMetrics, par, cfg, snrRaw, rssiRaw]

theorem stepIrq_h2c (caller : Stack) :
    stepIrq .h2c x caller s = .go (.irq .h2d (withMetrics x s) :: caller) (readMetrics s).2 := by
  have metrics : (readMetrics s).1 = sigMetrics s s.radio.snrRaw s.radio.rssiRaw := by
    simp only [readMetrics, radioReadSnrRaw, radioReadRssiRaw, sigMetrics, State.emit_par, State.emit_cfg,
      State.emit_radio]
  rw [stepIrq, metrics]
  rfl

/-- H2c: the packet's metrics are computed. -/
theorem Reaches.isr_measured (oracle : s.oracle = o) (live : s.life = .live) :
    Reaches [.isr 0 o] a (s.setIsrs [[.irq .h2c x]]) a ((readMetrics s).2.setIsrs [[.irq .h2d (withMetrics x s)]]) := by
  refine .isr_go oracle live fun rest => ?_
  rw [stepIrq_h2c, withMetrics_congr (s := s) (by rfl) (by rfl) (by rfl) (by rfl)]
  rfl

/-- A receive-done interrupt in mode RX_CONTINUOUS: H1 to H2c (R216, R217). -/
theorem reaches_packetTaken (oracle : s.oracle = o) (live : s.life = .live) (mode : s.mode = .rxContinuous)
    (flag : s.radio.flags.rxDone = true) (short : s.radio.rxPkt.length ≤ 255) :
    Reaches (isrMoves 5 0 o) a (s.setIsrs [newInvocation]) a
      ((packetTaken s).setIsrs [[.irq .h2d (packetLocals s.radio.rxPkt s)]]) := by
  let u := s.emit (.radio .readIrqFlags)
  let y : IrqLocals := { branchLocals s with buf := s.radio.rxPkt }
  have sampled := reaches_branch (a := a) oracle live
  rw [irqBranch_rxDone mode flag] at sampled
  have read := Reaches.isr_read (s := u) (a := a) (x := branchLocals s) oracle live short
  obtain ⟨v, taken⟩ : ∃ v, v = (readPacket u).2 := ⟨_, rfl⟩
  have answers : v.oracle = o := by simpa [taken, u] using oracle
  have running : v.life = .live := by simpa [taken, u] using live
  have cleared := Reaches.isr_cleared (s := v) (a := a) (x := y) answers running
  have measured := Reaches.isr_measured (s := radioClearIrqFlags v) (a := a) (x := y) answers running
  have locals : withMetrics y (radioClearIrqFlags v) = packetLocals s.radio.rxPkt s := by
    rw [withMetrics_congr (s := s) (by simp [taken, u]) (by simp [taken, u]) ?snrRaw ?rssiRaw]
    case snrRaw => simp [taken, u, readPacket_snd, radioClearIrqFlags]
    case rssiRaw => simp [taken, u, readPacket_snd, radioClearIrqFlags]
    simp only [withMetrics, packetLocals, y, branchLocals, mode]
  have left : (readMetrics (radioClearIrqFlags v)).2 = packetTaken s := taken ▸ packetTaken_eq short
  rw [← taken] at read
  rw [locals, left] at measured
  exact sampled.trans (read.trans (cleared.trans measured))

/-! ## The packets that are dropped (R218, R219) -/

/-- H2d of a packet without a whole header: it is dropped, and H5 is next (R218). -/
theorem Reaches.isr_malformed (oracle : s.oracle = o) (live : s.life = .live) (short : x.buf.length < 4) :
    Reaches [.isr 0 o] a (s.setIsrs [[.irq .h2d x]]) a ((s.emit (.drop .malformedPacket)).setIsrs [[.irq .h5 x]]) := by
  refine .isr_go oracle live fun rest => ?_
  rw [stepIrq, irqParse, hdrParse_of_short short]
  rfl

/-- H2d of a packet with a header. -/
theorem Reaches.isr_parsed {dst src ident flags : Byte} {body : Bytes} (oracle : s.oracle = o) (live : s.life = .live)
    (packet : x.buf = hdrBuild dst src ident flags body) :
    Reaches [.isr 0 o] a (s.setIsrs [[.irq .h2d x]]) a
      (s.setIsrs [[.irq .h2e { x with hdr := ⟨dst, src, ident, flags, body⟩ }]]) := by
  refine .isr_go oracle live fun rest => ?_
  rw [stepIrq, irqParse, packet, hdrParse_hdrBuild]

/-- H2e of a packet for another node: it is dropped, and the handler returns (R219, C1). -/
theorem Reaches.isr_foreign (oracle : s.oracle = o) (live : s.life = .live) (quiet : s.edgeLatched = false)
    (foreign : addrAccept s x.hdr.dst = false) :
    Reaches [.isr 0 o] a (s.setIsrs [[.irq .h2e x]]) a ((s.emit (.drop .foreignPacket)).setIsrs []) := by
  refine .isr oracle live fun rest => ?_
  have refused : ¬ addrAccept (placed rest a (s.setIsrs [[.irq .h2e x]])) x.hdr.dst = true :=
    ne_true_of_eq_false foreign
  rw [stepIrq, if_neg refused, resume_nil, settleIsr, returnFromIrq_of_quiet (by exact quiet)]
  rfl

theorem addrAccept_of_ne {dst : Byte} (notOwn : dst ≠ s.thisAddress) (notAll : dst ≠ 255) :
    addrAccept s dst = false := by
  rw [addrAccept_eq_decide]
  exact decide_eq_false fun h => h.elim notOwn notAll

end

/-! ## The obligations -/

/-- Settles O44: the handler sets IDLE by H3 and clears the flags by H5. -/
theorem txDoneInterruptSetsIdle : Obligations.TxDoneInterruptSetsIdle := by
  intro s o live noIsrs quiet mode flag script
  have served := reaches_txDoneServed (s := s.setOracle o) (a := s.app) rfl live quiet mode flag
  refine ⟨_, exec_irq_of_noIsrs live noIsrs, (runSteps_invocation (rest := []) script served).trans ?_⟩
  rw [noIsrs]
  rfl

/-- Settles O45: three steps write the verdict, two more the mode and the flags. -/
theorem cadDoneInterruptGivesVerdict : Obligations.CadDoneInterruptGivesVerdict := by
  intro s o live noIsrs quiet mode flag script
  have judged := reaches_verdict (s := s.setOracle o) (a := s.app) rfl live mode flag
  have served := reaches_cadDoneServed (s := s.setOracle o) (a := s.app) rfl live quiet mode flag
  refine ⟨_, _, exec_irq_of_noIsrs live noIsrs, runSteps_invocation (rest := isrMoves 2 0 o) script judged, mode, rfl,
    (runSteps_invocation (rest := []) script served).trans ?_⟩
  rw [noIsrs]
  rfl

/-- Settles O46: H2 goes straight to H5. -/
theorem staleInterruptOnlyClears : Obligations.StaleInterruptOnlyClears := by
  intro s o live noIsrs quiet notRx notTx notCad script
  have cleared := reaches_staleCleared (s := s.setOracle o) (a := s.app) rfl live quiet
    (irqBranch_stale notRx notTx notCad)
  refine ⟨_, exec_irq_of_noIsrs live noIsrs, (runSteps_invocation (rest := []) script cleared).trans ?_⟩
  simp [placed, radioClearIrqFlags, State.setScript, State.setApp, State.setIsrs, State.setRadio, State.emit,
    State.setOracle, FlagSet.empty, noIsrs]

/-- Settles O47: H2d drops the packet and goes to H5. -/
theorem malformedPacketIsDropped : Obligations.MalformedPacketIsDropped := by
  intro s o live noIsrs quiet mode flag short script
  let v := s.setOracle o
  have taken := reaches_packetTaken (s := v) (a := s.app) rfl live mode flag (short.trans (by decide)).le
  have dropped := Reaches.isr_malformed (s := packetTaken v) (a := s.app) (x := packetLocals v.radio.rxPkt v) rfl live
    short
  have returned := Reaches.isr_h5 (s := (packetTaken v).emit (.drop .malformedPacket)) (a := s.app)
    (x := packetLocals v.radio.rxPkt v) rfl live quiet
  have run := runSteps_invocation (rest := []) script (taken.trans (dropped.trans returned))
  refine ⟨_, exec_irq_of_noIsrs live noIsrs, run.trans ?_⟩
  simp [v, placed, packetTaken, radioClearIrqFlags, State.setScript, State.setApp, State.setIsrs, State.setRadio,
    State.emit, State.setOracle, FlagSet.empty, noIsrs]

/-- Settles O48: H2e drops the packet and returns. -/
theorem foreignPacketIsDropped : Obligations.ForeignPacketIsDropped := by
  intro s o dst src ident flags body live noIsrs quiet mode flag packet short notOwn notAll script
  let v := s.setOracle o
  have length : s.radio.rxPkt.length = 4 + body.length := by
    rw [packet, List.length_append]
    rfl
  have taken := reaches_packetTaken (s := v) (a := s.app) rfl live mode flag (length.trans_le (by omega))
  have parsed := Reaches.isr_parsed (s := packetTaken v) (a := s.app) (x := packetLocals v.radio.rxPkt v) rfl live
    packet
  have foreign : addrAccept (packetTaken v) dst = false := addrAccept_of_ne notOwn notAll
  have dropped := Reaches.isr_foreign (s := packetTaken v) (a := s.app)
    (x := { packetLocals v.radio.rxPkt v with hdr := ⟨dst, src, ident, flags, body⟩ }) rfl live quiet foreign
  have run := runSteps_invocation (rest := []) script (taken.trans (parsed.trans dropped))
  refine ⟨_, exec_irq_of_noIsrs live noIsrs, run.trans ?_⟩
  simp [v, placed, packetTaken, State.setScript, State.setApp, State.setIsrs, State.emit, State.setOracle, noIsrs,
    length]

end Sys2Proof.Machine
end

section
/-! PROOFS. Invocations inside one another (spec/60_exceptions.md R221, R222): SENDACK run in place by the innermost one (42_send_retry_ack.md R170), and the one that serves the end of its transmission. -/

namespace Sys2Proof.Machine

/-! ## The innermost of several invocations (R31, R222) -/

/-- `s` with the invocation `st` begun after those of `outer`. -/
def nested (outer : List Stack) (st : Stack) (s : State) : State := s.setIsrs (outer ++ [st])

section
variable {o : Oracle} {a : AppCtl} {outer : List Stack} {st st' caller : Stack} {x : IrqLocals} {s t : State}

/-- A step of the innermost invocation. -/
theorem Reaches.innermost (oracle : s.oracle = o) (live : s.life = .live)
    (turn : ∀ rest, settleIsr outer.length (stepStack st (placed rest a (nested outer st s))) = placed rest a t) :
    Reaches [.isr outer.length o] a (nested outer st s) a t := by
  intro n rest
  have answered : ((placed (.isr outer.length o :: rest) a (nested outer st s)).setScript rest).setOracle o =
      placed rest a (nested outer st s) := by
    rw [← oracle]
    rfl
  have place : (outer ++ [st])[outer.length]? = some st := List.getElem?_concat_length
  refine (runSteps_isr (rest := rest) rfl place (by simp [placed, nested, live])).trans ?_
  exact congrArg (runSteps n)
    ((congrArg (fun u => settleIsr outer.length (stepStack st u)) answered).trans (turn rest))

/-- A step of the innermost invocation that goes on. -/
theorem Reaches.innermost_go (oracle : s.oracle = o) (live : s.life = .live)
    (go : ∀ rest, stepStack st (placed rest a (nested outer st s)) = .go st' (placed rest a (nested outer st t))) :
    Reaches [.isr outer.length o] a (nested outer st s) a (nested outer st' t) := by
  refine .innermost oracle live fun rest => ?_
  have advanced : (outer ++ [st]).set outer.length st' = outer ++ [st'] := by simp
  rw [go]
  exact congrArg (placed rest a t).setIsrs advanced

/-- A step of the innermost invocation that goes on after an operation `f` on the shared state. -/
theorem Reaches.innermost_apply {f : State → State} (oracle : s.oracle = o) (live : s.life = .live)
    (go : ∀ u, stepStack st u = .go st' (f u)) (place : ∀ rest u, f (placed rest a u) = placed rest a (f u))
    (setIsrs : ∀ l, f (s.setIsrs l) = (f s).setIsrs l) :
    Reaches [.isr outer.length o] a (nested outer st s) a (nested outer st' (f s)) := by
  refine .innermost_go oracle live fun rest => ?_
  rw [go, place, nested, setIsrs]
  rfl

/-- H5 of the innermost invocation: the others are left (R225, R234). -/
theorem Reaches.innermost_h5 (oracle : s.oracle = o) (live : s.life = .live) (quiet : s.edgeLatched = false) :
    Reaches [.isr outer.length o] a (nested outer [.irq .h5 x] s) a ((radioClearIrqFlags s).setIsrs outer) := by
  refine .innermost oracle live fun rest => ?_
  have left : (outer ++ [[Frame.irq .h5 x]]).eraseIdx outer.length = outer := by
    rw [List.eraseIdx_append_of_length_le le_rfl, Nat.sub_self]
    exact List.append_nil outer
  have returned := settleIsr_h5 (k := outer.length) (x := x) (s := placed rest a (nested outer [.irq .h5 x] s)) quiet
  exact returned.trans (congrArg (placed rest a (radioClearIrqFlags s)).setIsrs left)

/-- A transmission-done interrupt in mode TX, served while other invocations run (R222, R223). -/
theorem reaches_nestedTxDoneServed (oracle : s.oracle = o) (live : s.life = .live) (quiet : s.edgeLatched = false)
    (mode : s.mode = .tx) (flag : s.radio.flags.txDone = true) :
    Reaches (isrMoves 4 outer.length o) a (nested outer newInvocation s) a ((idledByHandler s).setIsrs outer) := by
  let u := s.emit (.radio .readIrqFlags)
  let y : IrqLocals := ⟨s.radio.flags, .sleep, [], 0, 0, ⟨0, 0, 0, 0, []⟩, []⟩
  have branch : irqBranch s.mode s.radio.flags = .h3 := by simp [irqBranch, mode, flag]
  have flagsRead : Reaches [.isr outer.length o] a (nested outer newInvocation s) a (nested outer [.irq .h2 y] u) :=
    .innermost_go oracle live fun _ => rfl
  have modeRead : Reaches [.isr outer.length o] a (nested outer [.irq .h2 y] u) a
      (nested outer [.irq (irqBranch s.mode s.radio.flags) (branchLocals s)] u) :=
    .innermost_go oracle live fun _ => rfl
  rw [branch] at modeRead
  have idled : Reaches [.isr outer.length o] a (nested outer [.irq .h3 (branchLocals s)] u) a
      (nested outer [.irq .h5 (branchLocals s)] (setIdle u)) :=
    .innermost_apply oracle live (fun _ => rfl) (fun _ _ => setIdle_placed) setIdle_setIsrs
  have returned := Reaches.innermost_h5 (s := setIdle u) (a := a) (outer := outer) (x := branchLocals s)
    (by simpa [u] using oracle) (by simpa [u] using live) (by simpa [u] using quiet)
  have left := congrArg (fun v => v.setIsrs outer) (radioClearIrqFlags_setIdle (s := s) (by simp [mode]))
  exact flagsRead.trans (modeRead.trans (idled.trans (left ▸ returned)))

/-! ## With its flag unset a mode request raises no edge -/

theorem setTx_of_unset (notTx : s.mode ≠ .tx) (unset : s.radio.flags.txDone = false) :
    setTx s =
      { s with
        mode := .tx
        radio := { s.radio with hwMode := .tx, irqMap := some .txDone }
        obs := s.obs ++ [.radio (.writeMode .tx), .txStart (txFrame s.radio)] ++ [.radio (.mapIrq .txDone)] } :=
  (setTx_of_ne_tx notTx).trans (edgeOnRemap_of_quiet (.inl unset))

theorem setRx_of_unset (notRx : s.mode ≠ .rxContinuous) (unset : s.radio.flags.rxDone = false) :
    setRx s =
      { s with
        mode := .rxContinuous
        radio := { s.radio with hwMode := .rxContinuous, irqMap := some .rxDone }
        obs := s.obs ++ [.radio (.writeMode .rxContinuous)] ++ [.radio (.mapIrq .rxDone)] } :=
  (setRx_of_ne_rx notRx).trans (edgeOnRemap_of_quiet (.inl unset))

theorem setTx_setIsrs (notTx : s.mode ≠ .tx) (unset : s.radio.flags.txDone = false) (l : List Stack) :
    setTx (s.setIsrs l) = (setTx s).setIsrs l := by
  rw [setTx_of_unset notTx unset, setTx_of_unset (s := s.setIsrs l) notTx unset]
  rfl

theorem setRx_setIsrs (notRx : s.mode ≠ .rxContinuous) (unset : s.radio.flags.rxDone = false) (l : List Stack) :
    setRx (s.setIsrs l) = (setRx s).setIsrs l := by
  rw [setRx_of_unset notRx unset, setRx_of_unset (s := s.setIsrs l) notRx unset]
  rfl

/-! ## SENDACK run in place by a handler invocation (R170, R221) -/

/-- The control state of an agent that waits from the time of `s` on for its transmission to end (R172). -/
def awaiting (caller : Stack) (s : State) : Stack :=
  .wait .p1 .modeNotTx s.cfg.waitPacketSentTimeout s.clock s.clock :: caller

/-- A sample outside TX ends the wait, for a caller that ignores its result (R152, R170, R172). -/
theorem Reaches.innermost_sampled (u : State) (oracle : s.oracle = o) (live : s.life = .live)
    (awake : u.clock ≤ s.clock) (notTx : s.mode ≠ .tx) (returns : ∀ v w, resume (.bool v) caller w = .go st' w) :
    Reaches [.isr outer.length o] a (nested outer (awaiting caller u) s) a (nested outer st' s) := by
  refine .innermost_go oracle live fun rest => ?_
  let w := placed rest a (nested outer (awaiting caller u) s)
  have holds : condHolds .modeNotTx w = true := condHolds_modeNotTx_of_ne notTx
  refine (stepWait_p1_awake (s := w) awake).trans ?_
  rcases lt_or_ge (s.clock - u.clock) u.cfg.waitPacketSentTimeout with early | late
  · exact (waitSample_holds_early holds early).trans (returns _ _)
  · exact (waitSample_holds_late holds late).trans (returns _ _)

section
variable {b : SendArgs}

/-- S1 to S3 outside TX with channel sensing disabled (R152, R153, R181). -/
theorem reaches_nestedSensed (oracle : s.oracle = o) (live : s.life = .live) (notTx : s.mode ≠ .tx)
    (disabled : s.cfg.cadTimeout = 0) :
    Reaches (isrMoves 4 outer.length o) a (nested outer (.send .s1 b [] :: caller) s) a
      (nested outer (.send .s4 b [] :: caller) (setIdle s)) := by
  have begun : Reaches [.isr outer.length o] a (nested outer (.send .s1 b [] :: caller) s) a
      (nested outer (awaiting (.send .s1 b [] :: caller) s) s) := .innermost_go oracle live fun _ => rfl
  have sampled : Reaches [.isr outer.length o] a (nested outer (awaiting (.send .s1 b [] :: caller) s) s) a
      (nested outer (.send .s2 b [] :: caller) s) := .innermost_sampled s oracle live le_rfl notTx fun _ _ => rfl
  have idled : Reaches [.isr outer.length o] a (nested outer (.send .s2 b [] :: caller) s) a
      (nested outer (.send .s3 b [] :: caller) (setIdle s)) :=
    .innermost_apply oracle live (fun _ => rfl) (fun _ _ => setIdle_placed) setIdle_setIsrs
  have sensed : Reaches [.isr outer.length o] a (nested outer (.send .s3 b [] :: caller) (setIdle s)) a
      (nested outer (.send .s4 b [] :: caller) (setIdle s)) :=
    .innermost_go ((setIdle_oracle s).trans oracle) ((setIdle_life s).trans live) fun _ =>
      if_pos (by simpa [placed, nested] using disabled)
  exact begun.trans (sampled.trans (idled.trans sensed))

/-- S4 to S5c: the frame is built, written and sent (R154, R155). -/
theorem reaches_nestedTransmitted (oracle : s.oracle = o) (live : s.life = .live) (notTx : s.mode ≠ .tx)
    (unset : s.radio.flags.txDone = false) :
    Reaches (isrMoves 4 outer.length o) a (nested outer (.send .s4 b [] :: caller) s) a
      (nested outer (.send .s6 b (sendFrame b s) :: caller) (transmitted (sendFrame b s) s)) := by
  have built : Reaches [.isr outer.length o] a (nested outer (.send .s4 b [] :: caller) s) a
      (nested outer (.send .s5a b (sendFrame b s) :: caller) s) := .innermost_go oracle live fun _ => rfl
  generalize sendFrame b s = frame at built ⊢
  have writes : Reaches [.isr outer.length o] a (nested outer (.send .s5a b frame :: caller) s) a
      (nested outer (.send .s5b b frame :: caller) (radioFifoWriteAt0 frame s)) :=
    .innermost_apply oracle live (fun _ => rfl) (fun _ _ => rfl) fun _ => rfl
  have counts : Reaches [.isr outer.length o] a
      (nested outer (.send .s5b b frame :: caller) (radioFifoWriteAt0 frame s)) a
      (nested outer (.send .s5c b frame :: caller) (loaded frame s)) :=
    .innermost_apply (f := radioWritePayloadLength (BitVec.ofNat 8 frame.length)) oracle live (fun _ => rfl)
      (fun _ _ => rfl) fun _ => rfl
  have sends : Reaches [.isr outer.length o] a (nested outer (.send .s5c b frame :: caller) (loaded frame s)) a
      (nested outer (.send .s6 b frame :: caller) (transmitted frame s)) :=
    .innermost_apply oracle live (fun _ => rfl) (fun _ _ => setTx_placed) (setTx_setIsrs notTx unset)
  exact built.trans (writes.trans (counts.trans sends))

theorem sent_disabled_eq (b : SendArgs) (s : State) :
    sent b 0 .disabled s = transmitted (sendFrame b s) (setIdle s) := by
  have still : s.clock + priorTime s.mode 0 = s.clock := by simp [priorTime]
  rw [sent, Sensing.after, afterPrior, still]
  rfl

end

/-- A1 from S1 on and A2's first step, outside TX with channel sensing disabled (R170). -/
theorem reaches_nestedAckSent {d i : Byte} (oracle : s.oracle = o) (live : s.life = .live) (notTx : s.mode ≠ .tx)
    (disabled : s.cfg.cadTimeout = 0) (unset : s.radio.flags.txDone = false) (w : State)
    (acked : w = sent (ackArgs d i) 0 .disabled s) :
    Reaches (isrMoves 10 outer.length o) a
      (nested outer (.send .s1 (ackArgs d i) [] :: .sendAck .a1 d i :: caller) s) a
      (nested outer (awaiting (.sendAck .a2 d i :: caller) w) w) := by
  let b := ackArgs d i
  have leaves := setIdle_leaves s
  have sensed := reaches_nestedSensed (a := a) (outer := outer) (caller := .sendAck .a1 d i :: caller) (b := b) oracle
    live notTx disabled
  have sends := reaches_nestedTransmitted (s := setIdle s) (a := a) (outer := outer)
    (caller := .sendAck .a1 d i :: caller) (b := b) ((setIdle_oracle s).trans oracle) ((setIdle_life s).trans live)
    (by simp) (leaves.flags ▸ unset)
  rw [leaves.sendFrame, ← sent_disabled_eq, ← acked] at sends
  have answers : w.oracle = o := acked ▸ sent_oracle.trans oracle
  have running : w.life = .live := by
    obtain ⟨-, life, -⟩ := (sent_disabled_leaves (a := b) disabled (ackPayload_fits _)).session
    exact acked ▸ life.trans live
  have handed : Reaches [.isr outer.length o] a
      (nested outer (.send .s6 b (sendFrame b s) :: .sendAck .a1 d i :: caller) w) a
      (nested outer (.sendAck .a2 d i :: caller) w) := .innermost_go answers running fun _ => rfl
  have waits : Reaches [.isr outer.length o] a (nested outer (.sendAck .a2 d i :: caller) w) a
      (nested outer (awaiting (.sendAck .a2 d i :: caller) w) w) := .innermost_go answers running fun _ => rfl
  exact sensed.trans (sends.trans (handed.trans waits))

end

end Sys2Proof.Machine
end

section
/-! PROOFS. A data frame for this node, acknowledged by the handler and then delivered (spec/60_exceptions.md R221, R222; O51). -/

namespace Sys2Proof.Machine

section
variable {o : Oracle} {a : AppCtl} {src ident flags d i : Byte} {body : Bytes} {x : IrqLocals} {s : State}

/-! ## From the edge to the acknowledgement's SEND -/

/-- The locals of an invocation after H2f that has taken a packet for this node (R220). -/
def ownPacketLocals (s : State) (src ident flags : Byte) (body : Bytes) : IrqLocals :=
  withMessage { packetLocals s.radio.rxPkt s with hdr := ⟨s.thisAddress, src, ident, flags, body⟩ } s

theorem mustAck_eq_true (enabled : s.cfg.acksEnabled = true) (own : x.hdr.dst = s.thisAddress)
    (data : isAck x.hdr.flags = false) : mustAck x s = true := by
  simp [mustAck, enabled, own, data]

/-- H2g with an acknowledgement due: A1's first step, whose check passes (R151, R221). -/
theorem stepIrq_h2g_of_ack {caller : Stack} (due : mustAck x s = true) :
    stepIrq .h2g x caller s =
      .go
        (.send .s1 (ackArgs x.hdr.src x.hdr.ident) [] :: .sendAck .a1 x.hdr.src x.hdr.ident :: .irq .h2g x :: caller)
        s :=
  (if_pos due).trans (sendS0_of_fits (tooLong_of_le (ackPayload_fits s.cfg.codec)))

/-- H1 to H2g of a data frame for this node with acknowledgements enabled (R217 to R221). -/
theorem reaches_ackBegun (oracle : s.oracle = o) (live : s.life = .live) (mode : s.mode = .rxContinuous)
    (flag : s.radio.flags.rxDone = true) (packet : s.radio.rxPkt = hdrBuild s.thisAddress src ident flags body)
    (short : body.length ≤ 251) (enabled : s.cfg.acksEnabled = true) (data : isAck flags = false) :
    Reaches (isrMoves 9 0 o) a (s.setIsrs [newInvocation]) a
      (nested [] [.send .s1 (ackArgs src ident) [], .sendAck .a1 src ident,
        .irq .h2g (ownPacketLocals s src ident flags body)] (packetTaken s)) := by
  have fits : s.radio.rxPkt.length ≤ 255 := by
    rw [packet, hdrBuild, List.length_append, List.length_cons]
    simp only [List.length_cons, List.length_nil]
    omega
  let y : IrqLocals := { packetLocals s.radio.rxPkt s with hdr := ⟨s.thisAddress, src, ident, flags, body⟩ }
  let z := ownPacketLocals s src ident flags body
  let u := packetTaken s
  have taken := reaches_packetTaken (a := a) oracle live mode flag fits
  have parsed := Reaches.isr_parsed (s := u) (a := a) (x := packetLocals s.radio.rxPkt s) oracle live packet
  have accepted : Reaches [.isr 0 o] a (u.setIsrs [[.irq .h2e y]]) a (u.setIsrs [[.irq .h2f y]]) :=
    .isr_go oracle live fun _ => stepIrq_h2e_of_accepted (addrAccept_of_eq (.inl rfl))
  have decrypted : Reaches [.isr 0 o] a (u.setIsrs [[.irq .h2f y]]) a (u.setIsrs [[.irq .h2g z]]) :=
    .isr_go oracle live fun _ => rfl
  have begun : Reaches [.isr 0 o] a (nested [] [.irq .h2g z] u) a
      (nested [] [.send .s1 (ackArgs src ident) [], .sendAck .a1 src ident, .irq .h2g z] u) :=
    .innermost_go (outer := []) oracle live fun _ => stepIrq_h2g_of_ack (mustAck_eq_true enabled rfl data)
  exact taken.trans (parsed.trans (accepted.trans (decrypted.trans begun)))

/-! ## The interrupt that ends the acknowledgement's wait -/

/-- RADIO ends a transmission: an invocation starts inside those that run (R222). -/
theorem radioStep_txDone_interrupts (stays : Bool) (outer : List Stack) (live : s.life = .live)
    (reentrant : s.par.isrReentrant = true) (hw : s.radio.hwMode = .tx) (line : s.radio.irqMap = some .txDone)
    (unset : s.radio.flags.txDone = false) :
    radioStep (.txDone stays) (s.setIsrs outer) = nested outer newInvocation (txReported stays s) := by
  rw [radioStep_txDone_of_tx (s := s.setIsrs outer) stays hw, radioRests_eq, State.setIsrs_radio, hw, raiseFlag_eq,
    if_pos ⟨line, unset⟩]
  exact takeEdge_starts live (.inl reentrant)

/-- The end of the transmission, the nested invocation that serves it, and A2's sample: SETRX is next (R221). -/
theorem reaches_ackServed (stays : Bool) (oracle : s.oracle = o) (live : s.life = .live)
    (reentrant : s.par.isrReentrant = true) (quiet : s.edgeLatched = false) (mode : s.mode = .tx)
    (hw : s.radio.hwMode = .tx) (line : s.radio.irqMap = some .txDone) (unset : s.radio.flags.txDone = false) :
    Reaches (.radio (.txDone stays) :: (isrMoves 4 1 o ++ isrMoves 1 0 o)) a
      (nested [] (awaiting [.sendAck .a2 d i, .irq .h2g x] s) s) a
      (nested [] [.irq .h2gRx x] (idledByHandler (txReported stays s))) := by
  let waiting := awaiting [.sendAck .a2 d i, .irq .h2g x] s
  have reported := Reaches.radio (e := .txDone stays) (a := a) (s := nested [] waiting s)
  have interrupted := radioStep_txDone_interrupts stays [waiting] live reentrant hw line unset
  have served := reaches_nestedTxDoneServed (s := txReported stays s) (a := a) (outer := [waiting]) oracle live quiet
    mode rfl
  have sampled : Reaches [.isr 0 o] a (nested [] waiting (idledByHandler (txReported stays s))) a
      (nested [] [.irq .h2gRx x] (idledByHandler (txReported stays s))) :=
    .innermost_sampled (outer := []) s oracle live le_rfl nofun fun _ _ => rfl
  have reported : Reaches [.radio (.txDone stays)] a (nested [] waiting s) a
      (nested [waiting] newInvocation (txReported stays s)) := interrupted ▸ reported
  exact reported.trans (served.trans sampled)

/-! ## Back in reception, the record stored and delivered -/

/-- `s` when a handler has served the end of its transmission and SETRX has begun reception again. -/
def backInReception (s : State) : State :=
  { s with
    mode := .rxContinuous
    radio :=
      { s.radio with
        hwMode := .rxContinuous
        irqMap := some .rxDone
        flags := ⟨false, false, false, false⟩ }
    isrs := []
    obs := s.obs ++ [.radio .readIrqFlags, .radio (.writeMode .standby), .radio .clearIrqFlags,
      .radio (.writeMode .rxContinuous), .radio (.mapIrq .rxDone)] }

theorem setRx_idledByHandler (stays : Bool) (s : State) :
    setRx (idledByHandler (txReported stays s)) = backInReception s := by
  rw [setRx_of_unset (s := idledByHandler (txReported stays s)) nofun rfl]
  simp [idledByHandler, txReported, backInReception]

/-- `s` after H2h, H2i and H5 of an invocation with the record `p`. -/
def recordHandedOver (p : ParsedPacket) (s : State) : State :=
  { s with
    lastReceivedPayload := some p
    radio := { s.radio with flags := ⟨false, false, false, false⟩ }
    isrs := []
    obs := s.obs ++ deliveries p s.receiveCallback ++ [.radio .clearIrqFlags] }

/-- The SETRX of H2g, then H2h, H2i and H5 (R221, R225). -/
theorem reaches_handedOver (stays : Bool) (oracle : s.oracle = o) (live : s.life = .live)
    (quiet : s.edgeLatched = false) :
    Reaches (isrMoves 4 0 o) a (nested [] [.irq .h2gRx x] (idledByHandler (txReported stays s))) a
      (recordHandedOver (packetOf x) (backInReception s)) := by
  let u := backInReception s
  let v := u.setRecord (packetOf x)
  have received : Reaches [.isr 0 o] a (nested [] [.irq .h2gRx x] (idledByHandler (txReported stays s))) a
      (nested [] [.irq .h2h x] (setRx (idledByHandler (txReported stays s)))) :=
    .innermost_apply (outer := []) oracle live (fun _ => rfl) (fun _ _ => setRx_placed) (setRx_setIsrs nofun rfl)
  rw [setRx_idledByHandler] at received
  have stored : Reaches [.isr 0 o] a (u.setIsrs [[.irq .h2h x]]) a (v.setIsrs [[.irq .h2i x]]) :=
    .isr_go oracle live fun _ => rfl
  have delivered : Reaches [.isr 0 o] a (v.setIsrs [[.irq .h2i x]]) a ((deliver x v).setIsrs [[.irq .h5 x]]) :=
    .isr_go oracle live fun rest => by
      rw [stepIrq, deliver_eq, deliver_eq]
      rfl
  have returned := Reaches.isr_h5 (s := deliver x v) (a := a) (x := x) ((deliver_oracle x v).trans oracle)
    ((deliver_life x v).trans live) ((deliver_edgeLatched x v).trans quiet)
  have left : (radioClearIrqFlags (deliver x v)).setIsrs [] = recordHandedOver (packetOf x) u := by
    rw [deliver_eq]
    rfl
  exact received.trans (stored.trans (delivered.trans (left ▸ returned)))

/-- What leaves the block after the acknowledgement is the delivery of a data frame (R221). -/
theorem recordHandedOver_outputs {p : ParsedPacket} {h : Handle} (registered : s.receiveCallback = some h)
    (data : isAck p.headerFlags = false) :
    (recordHandedOver p (backInReception s)).obs.filter isOutput = s.obs.filter isOutput ++ [.deliver h p] := by
  have delivered : deliveries p s.receiveCallback = [.deliver h p] := by
    rw [deliveries_of_data data, registered]
  have labels : (recordHandedOver p (backInReception s)).obs =
      s.obs ++ ([.radio .readIrqFlags, .radio (.writeMode .standby), .radio .clearIrqFlags,
        .radio (.writeMode .rxContinuous), .radio (.mapIrq .rxDone)] ++ (deliveries p s.receiveCallback ++
        [.radio .clearIrqFlags])) := by
    simp [recordHandedOver, backInReception]
  rw [labels, delivered, List.filter_append]
  rfl

theorem packetTaken_outputs (s : State) : (packetTaken s).obs.filter isOutput = s.obs.filter isOutput := by
  rw [packetTaken, List.filter_append]
  exact List.append_nil _

end

/-- Settles O51: the packet is read, the acknowledgement sent and its end served by a nested invocation, and then the
record is stored and delivered. -/
theorem dataFrameIsAcknowledgedThenDelivered : Obligations.DataFrameIsAcknowledgedThenDelivered := by
  intro s o src ident flags body h stays live noIsrs quiet reentrant mode flag packet short bit enabled disabled
    registered script p
  let v := s.setOracle o
  let u := packetTaken v
  have data : isAck flags = false := (isAck_eq_getLsbD flags).trans bit
  obtain ⟨w, acked⟩ : ∃ w, w = sent (ackArgs src ident) 0 .disabled u := ⟨_, rfl⟩
  have leaves : SendLeaves [o] (sendLabels (sendFrame (ackArgs src ident) u) .disabled u.mode) u w := by
    rw [acked]
    exact sent_disabled_leaves (a := ackArgs src ident) (s := u) disabled (ackPayload_fits _)
  obtain ⟨par, life, -, -, -, callback⟩ := leaves.session
  obtain ⟨-, latched⟩ : edgesKept u w := acked ▸ sent_disabled_edgesKept rfl
  have oracle : w.oracle = o := acked ▸ sent_oracle
  have txMode : w.mode = .tx := acked ▸ sent_mode
  have hw : w.radio.hwMode = .tx := acked ▸ sent_hwMode
  have line : w.radio.irqMap = some .txDone := acked ▸ sent_irqMap
  have begun := reaches_ackBegun (s := v) (a := s.app) rfl live mode flag packet short enabled data
  have sends := reaches_nestedAckSent (s := u) (a := s.app) (outer := []) (d := src) (i := ident)
    (caller := [.irq .h2g (ownPacketLocals v src ident flags body)]) rfl live (by simp [u, v, packetTaken, mode])
    disabled rfl w acked
  have served := reaches_ackServed (d := src) (i := ident) (x := ownPacketLocals v src ident flags body) (a := s.app)
    stays oracle (life.trans live) ((congrArg Params.isrReentrant par).trans reentrant) (latched.trans quiet) txMode hw
    line ((congrArg FlagSet.txDone leaves.flags).trans rfl)
  have ends := reaches_handedOver (s := w) (x := ownPacketLocals v src ident flags body) (a := s.app) stays oracle
    (life.trans live) (latched.trans quiet)
  have run := runSteps_invocation (rest := []) script (begun.trans (sends.trans (served.trans ends)))
  have outputs : w.obs.filter isOutput =
      s.obs.filter isOutput ++ [Label.txStart (sendFrame (ackArgs src ident) u)] := by
    rw [leaves.obs, List.filter_append, sendLabels_outputs, packetTaken_outputs]
    rfl
  refine ⟨_, _, exec_irq_of_noIsrs live noIsrs, run, rfl, rfl, rfl, rfl, rfl, rfl, leaves.lastHeaderId,
    leaves.cadDetected, leaves.session, leaves.clock, latched.trans quiet, leaves.receiver, rfl, ?_⟩
  refine (recordHandedOver_outputs (callback.trans registered) data).trans ?_
  rw [outputs, List.append_assoc]
  rfl

end Sys2Proof.Machine
end
